-- ==== Sys2Proof/Word.lean ====
section
/-! DEFINITION. The machine word and byte. Window accesses carry one aligned 32-bit word (R15). -/
namespace Sys2Proof

/-- A 32-bit word of the system bus (R15). -/
abbrev Word := BitVec 32

/-- A byte; fields are little-endian (00_scope.md section 7). -/
abbrev Byte := BitVec 8

end Sys2Proof
end

