-- ==== Sys2Proof/Syntax.lean ====
section
/-! DEFINITION. The commands of the block: one constructor per row of spec/opcode_table.json. -/
namespace Sys2Proof

/-- A command from outside the block. A command with a word operand carries what the host wrote or what
the bus returned; the row's rule is named at each constructor. -/
inductive Instr where
  /-- POWER_ON_RESET (R64). -/
  | powerOnReset
  /-- WINDOW_WRITE (R1). -/
  | windowWrite (value : Word)
  /-- RUN (R47). -/
  | run
  /-- PAUSE (R57). -/
  | pause
  /-- RESUME (R58). -/
  | resume
  /-- ABORT (R59). -/
  | abort
  /-- HUSH_SET (R200). -/
  | hushSet
  /-- HUSH_CLEAR (R200). -/
  | hushClear
  /-- RESET (R64). -/
  | reset
  /-- UNKNOWN_COMMAND: a COMMAND write with a code not listed (R8). -/
  | unknownCommand (code : Word)
  /-- NUDGE: a write of any value (R9). -/
  | nudge (value : Word)
  /-- EVENTS_WRITE (R11). -/
  | eventsWrite (value : Word)
  /-- EVENT_ENABLE_WRITE (R12). -/
  | eventEnableWrite (value : Word)
  /-- IGNORED_REGISTER_WRITE: a write to STATUS or to an unused slave offset (R7). -/
  | ignoredRegisterWrite (offset value : Word)
  /-- MILLISECOND_STEP: bit p of `keys` is set when position p samples down, `hushLine` is the level of the line (R79). -/
  | millisecondStep (keys : BitVec 64) (hushLine : Bool)
  /-- REPROMPT_EXPIRY (R108). -/
  | repromptExpiry
  /-- SETTLE_EXPIRY (R104). -/
  | settleExpiry
  /-- HANDOFF_WAIT_EXPIRY (R185). -/
  | handoffWaitExpiry
  /-- RESTART_EXPIRY (R187). -/
  | restartExpiry
  /-- SAMPLE_SLOT (R195). -/
  | sampleSlot
  /-- END_MARK_REPORT (R168). -/
  | endMarkReport
  /-- BUS_GRANT (R14). -/
  | busGrant
  /-- BUS_ERROR (R16). -/
  | busError
  /-- SETUP_READ_RETURN (R48). -/
  | setupReadReturn (word : Word)
  /-- SETUP_CHECK (R49). -/
  | setupCheck
  /-- LINK_READ_RETURN (R28). -/
  | linkReadReturn (word : Word)
  /-- STATE_READ_RETURN (R29). -/
  | stateReadReturn (word : Word)
  /-- TAKEN_WRITE_COMPLETE (R31). -/
  | takenWriteComplete
  /-- BODY_READ_RETURN (R32). -/
  | bodyReadReturn (word : Word)
  /-- RETIRE_WRITE_COMPLETE (R34). -/
  | retireWriteComplete
  /-- ACTIVE_WRITE_COMPLETE (R54). -/
  | activeWriteComplete
  /-- KEY_TAKE (R88). -/
  | keyTake
  /-- ALIGNMENT_COMPLETION (R122). -/
  | alignmentCompletion
  /-- PRESENTATION_END (R114). -/
  | presentationEnd
  /-- LINE_WRITE_COMPLETE (R159). -/
  | lineWriteComplete
  /-- LINE_CLOSE (R161). -/
  | lineClose
  /-- LC_WRITE_COMPLETE (R45). -/
  | lcWriteComplete
  /-- PASS_READ_RETURN (R74). -/
  | passReadReturn (word : Word)
  /-- PASS_WRITE_COMPLETE (R74). -/
  | passWriteComplete
  /-- STRING_READ_RETURN (R171). -/
  | stringReadReturn (word : Word)
  /-- UNIT_HEADER_READ_RETURN (R173). -/
  | unitHeaderReadReturn (word : Word)
  /-- SAMPLE_READ_RETURN (R179). -/
  | sampleReadReturn (word : Word)
  /-- BUFFER_WRITE (R178). -/
  | bufferWrite
  /-- HANDOFF_RECORD_WRITE_COMPLETE (R183). -/
  | handoffRecordWriteComplete
  /-- HANDOFF_DONE_READ_RETURN (R184). -/
  | handoffDoneReadReturn (word : Word)
  /-- RECORD_WRITE_COMPLETE (R118). -/
  | recordWriteComplete
  /-- SCANNER_WRITE_COMPLETE (R76). -/
  | scannerWriteComplete
  /-- COMPOSER_WRITE_COMPLETE (R181). -/
  | composerWriteComplete
  deriving DecidableEq, Repr

end Sys2Proof
end

