-- ==== Sys2Proof/Decode.lean ====
section
/-! DEFINITION. Which command a write of the host to the slave range is (R7, R8, R9, R11, R12). The table of this block gives
no row any bits, so no word spells a command by the table. -/
namespace Sys2Proof

/-- The command a word spells by the table's bits: none, since no row of spec/opcode_table.json gives bits. -/
def decodeTableWord (_nbits _w : Nat) : Option Instr := none

/-- The command that a value written to COMMAND is (R8, section 1.7). -/
def commandOf (code : Word) : Instr :=
  if code = 1 then .run
  else if code = 2 then .pause
  else if code = 3 then .resume
  else if code = 4 then .abort
  else if code = 5 then .hushSet
  else if code = 6 then .hushClear
  else if code = 7 then .reset
  else .unknownCommand code

/-- The command that a write of the host at a slave offset is (section 1.7): to WINDOW, COMMAND, NUDGE, EVENTS and
EVENT_ENABLE by the register, and an ignored write elsewhere (R7). -/
def registerWrite (offset value : Word) : Instr :=
  if offset = 0x00 then .windowWrite value
  else if offset = 0x04 then commandOf value
  else if offset = 0x08 then .nudge value
  else if offset = 0x10 then .eventsWrite value
  else if offset = 0x14 then .eventEnableWrite value
  else .ignoredRegisterWrite offset value

end Sys2Proof
end

