-- ==== Sys2Proof/Config.lean ====
section
/-! DEFINITION. The fixed sizes of the part. The spec leaves no instruction result open, so there is no free value here. -/
namespace Sys2Proof.Config

/-- Entries of the key FIFO (R72). -/
def fifoDepth : Nat := 16
/-- Entries of the review queue (R141). -/
def reviewDepth : Nat := 16
/-- Entries of the utterance queue (R164). -/
def utteranceDepth : Nat := 4
/-- Entries of the output buffer (R195). -/
def bufferDepth : Nat := 512
/-- Longest typed trail (R99). -/
def trailMax : Nat := 32
/-- Samples of silence that stand in for a bad unit (R173). -/
def badUnitSamples : Nat := 640
/-- Samples of a ramp-in and of a cut ramp (R176, R197). -/
def rampSamples : Nat := 64
/-- Entries of the hush ramp (R201). -/
def hushRampSamples : Nat := 16
/-- Buffer level at which FILL ends (R178). -/
def startLevel : Nat := 256
/-- The RESTART duration in ms (R82). -/
def restartMs : Nat := 200
/-- Setup words read at lesson start, mailbox offsets 0x000 to 0x187 (R48). -/
def setupWords : Nat := 98

end Sys2Proof.Config
end

