-- ==== Sys2Proof/Machine/State.lean ====
section
/-! DEFINITION. Everything the spec gives the part to hold, as plain data, and the state after power-on reset.
Fields the spec shows as computed from others (interrupt line, STATUS, held count, effective hush, key route,
timer conditions) are functions in Machine/Flags.lean and the block files. -/
namespace Sys2Proof.Machine

/-! ### Stops -/

/-- The reasons a command could stop the model with a fault: none. Every fault the spec names (NO_BANK, BAD_SETUP,
LINK_RANGE, BUS_ERROR) is a lesson state (R43, R49, R61, R62), so taking it is a next state. An empty type is safe. -/
inductive Fault
  deriving DecidableEq, Repr

/-- The reasons a command is refused by the model. -/
inductive Refusal
  /-- Raised by Dispatch for a row whose meaning is not written: no arm raises it. Safe. -/
  | notModelled (mnemonic : String)
  /-- Raised by UNKNOWN_COMMAND with one of the codes 1..7: that write is the row RUN to RESET. Safe. -/
  | listedCommandCode
  /-- Raised by IGNORED_REGISTER_WRITE at the offset of a register that takes writes: that write is another row. Safe. -/
  | takenRegisterOffset
  deriving DecidableEq, Repr

/-! ### Codes and shared records -/

/-- Lesson states (R43); codes in section 1.7. -/
inductive LessonState
  | stopped | starting | waiting | presenting | paused | ended | faulted
  deriving DecidableEq, Repr

/-- Fault codes (section 1.7). -/
inductive FaultCode
  | noFault | noBank | badSetup | linkRange | busError
  deriving DecidableEq, Repr

/-- Card states (section 1.7, R20). -/
inductive CardState
  | free | posted | taken | active | review | retired
  deriving DecidableEq, Repr

/-- Outcomes of a card (R24). -/
inductive CardOutcome
  | noOutcome | done | unmastered | unqueued | rejected | applied | ended | abandoned
  deriving DecidableEq, Repr

/-- Reject details (R33). -/
inductive Detail
  | noDetail | badKind | badSpelling | refRange
  deriving DecidableEq, Repr

/-- Entry modes (R36). -/
inductive Mode | whole | live
  deriving DecidableEq, Repr

/-- What a key does to a playing prompt (R36, R96, R97). -/
inductive Barge | allow | hold | discard
  deriving DecidableEq, Repr

/-- Parts of the opening prompt (R36, R92). -/
inductive Pattern | word | wordWord | wordSentenceWord
  deriving DecidableEq, Repr

/-- The 24 lesson settings (R36), with their defaults. -/
structure Context where
  mode : Mode := .whole
  tries : Nat := 2
  hintMax : Nat := 3
  slipLimit : Nat := 3
  barge : Barge := .allow
  echo : Bool := true
  pattern : Pattern := .wordSentenceWord
  pass : Nat := 70
  gapBase : Nat := 3
  reviewMax : Nat := 2
  reprompt : Nat := 8000
  reprompts : Nat := 2
  settle : Nat := 1200
  rate : Nat := 16
  wordGap : Nat := 120
  letterGap : Nat := 300
  phraseGap : Nat := 250
  finalGap : Nat := 400
  switchGap : Nat := 20
  maxPhrase : Nat := 24
  volume : Nat := 20
  bank : Nat := 0
  handoff : Bool := false
  handoffWait : Nat := 4000
  deriving DecidableEq, Repr

/-- The settings at their defaults (R36). -/
def Context.defaults : Context := {}

/-- A card's reference with the kind and tag read when it was found POSTED (R20). -/
structure CardId where
  ref : Word := 0
  kind : Byte := 0
  tag : BitVec 16 := 0
  deriving DecidableEq, Repr

/-- An inner window of a mask, as read (R152). -/
structure InnerWindow where
  start : Nat
  width : Nat
  on : Bool
  deriving DecidableEq, Repr

/-- Mask modes (R152). -/
inductive MaskMode | noMask | all | span | windows
  deriving DecidableEq, Repr

/-- The on-chip image of a WORD card (R25). Letters are codes 1..27. -/
structure WordImage where
  alternates : List (List Nat) := []
  handoff : Bool := false
  pron : Word := 0
  sentence : Word := 0
  maskMode : MaskMode := .noMask
  lead : Nat := 0
  trail : Nat := 0
  windows : List InnerWindow := []
  mastery : Nat := 0
  reviews : Nat := 0
  presentations : Nat := 0
  deriving DecidableEq, Repr

/-- The on-chip image of a card by kind (R25, R26). -/
inductive Image
  | empty
  | word (img : WordImage)
  | say (sentence : Word)
  | endCard
  deriving DecidableEq, Repr

/-! ### Window Port -/

/-- The requesters of the master port (R14); the composer has two. -/
inductive Requester
  | walker | lesson | engine | line | scanner | header | sample
  deriving DecidableEq, Repr

/-- The counters whose copies the Lesson Controller writes, in the order of R45. -/
inductive LcCounter | taken | retired | judged | rejected | unqueued | underruns
  deriving DecidableEq, Repr

/-- The counters of the Key Scanner, in the order of R76. -/
inductive KsCounter | dropped | blocked | passDropped
  deriving DecidableEq, Repr

/-- The counters of the Speech Composer, in the order of R181. -/
inductive ScCounter | bankFaults | handoffLapsed | echoDropped
  deriving DecidableEq, Repr

/-- Hand-off record states (section 1.7). -/
inductive HandoffState | idle | requested | cancelled
  deriving DecidableEq, Repr

/-- The part a hand-off speaks (section 1.7). -/
inductive HandoffPart | word | sentence
  deriving DecidableEq, Repr

/-- A write of the hand-off record: the card reference word, then the word with sequence, state and part (R183). -/
inductive RecWrite
  | cardRef (ref : Word)
  | state (seq : Nat) (st : HandoffState) (part : HandoffPart)
  deriving DecidableEq, Repr

/-- A Lesson Controller access (R45). -/
inductive LcAccess
  | setup (k : Nat)
  | mirror
  | mirrorStopped
  | currentRef (ref : Word)
  | copy (c : LcCounter)
  | faultWord (k : Nat) (value : Word)
  | header (card : CardId) (st : CardState)
  | outcome (ref : Word) (oc : CardOutcome)
  | endRecord (k : Nat)
  | mastery
  deriving DecidableEq, Repr

/-- What a window access is for. Offsets of reads stand here; those of writes follow from the purpose. -/
inductive Access
  /-- Deck Walker: the link word (R28). -/
  | link (offset : Nat)
  /-- Deck Walker: the header word of a named card (R29). -/
  | cardState (offset : Nat)
  /-- Deck Walker: the TAKEN write (R31). -/
  | takenWrite
  /-- Deck Walker: a body word (R32). -/
  | body (offset : Nat)
  /-- Deck Walker: the outcome word of RETIRE (R34). -/
  | walkerOutcome
  /-- Deck Walker: the RETIRED write of RETIRE (R34). -/
  | walkerRetired
  /-- Lesson Controller; `chain` tells a chain's access from a pending write (R45). -/
  | lc (a : LcAccess) (chain : Bool)
  /-- Attempt Engine: record word k = 0..12 of a card (R118). -/
  | record (card : Word) (k : Nat)
  /-- Line Builder: the generation word (R158, R159). -/
  | lineGen
  /-- Line Builder: cell word w = 0..15 (R159). -/
  | lineCell (w : Nat)
  /-- Key Scanner: the pass slot read (R74 step 1). -/
  | passRead
  /-- Key Scanner: the pass slot time write (R74 step 2). -/
  | passTime
  /-- Key Scanner: the pass slot write (R74 step 3). -/
  | passSlot
  /-- Key Scanner: a counter copy (R76). -/
  | ksCopy (c : KsCounter)
  /-- Speech Composer header requester: a string word (R171). -/
  | string (offset : Nat)
  /-- Speech Composer header requester: a unit table word (R173). -/
  | unitWord (offset : Nat)
  /-- Speech Composer header requester: the hand-off done word (R184). -/
  | doneRead
  /-- Speech Composer header requester: a hand-off record write (R183). -/
  | recWrite (r : RecWrite)
  /-- Speech Composer header requester: the composer mirror (R181). -/
  | composerMirror
  /-- Speech Composer header requester: a counter copy (R181). -/
  | scCopy (c : ScCounter)
  /-- Speech Composer sample requester: a word of samples (R179). -/
  | sample (offset : Nat)
  deriving DecidableEq, Repr

/-- An access waiting for the grant. `discard` marks a read whose data its block no longer wants; `frozen` keeps the
content of a record write whose try has been dropped (R119). -/
structure Request where
  access : Access
  discard : Bool := false
  frozen : Option Word := none
  deriving DecidableEq, Repr

/-- The access in progress on the bus. `orphan` marks an access that a soft reset has cut loose (R17). -/
structure BusAccess where
  requester : Requester
  access : Access
  discard : Bool
  orphan : Bool
  /-- The bus address: WINDOW at the grant plus the offset, modulo 2^32 (R1). -/
  address : Word
  /-- The word written; `none` for a read. -/
  write : Option Word
  deriving DecidableEq, Repr

/-- At most one waiting access per requester (R15). -/
structure Waiting where
  walker : Option Request := none
  lesson : Option Request := none
  engine : Option Request := none
  line : Option Request := none
  scanner : Option Request := none
  header : Option Request := none
  sample : Option Request := none
  deriving DecidableEq, Repr

/-- The Window Port (chapter 1). -/
structure Port where
  window : Word := 0
  events : Byte := 0
  enable : Byte := 0
  refused : Bool := false
  fault : FaultCode := .noFault
  coalesceSetting : Nat := 0
  coalesce : Nat := 0
  ended : Nat := 0
  writeBlock : Bool := false
  rotation : Requester := .walker
  waiting : Waiting := {}
  busy : Option BusAccess := none
  deriving DecidableEq, Repr

/-! ### Deck Walker -/

/-- Walker states (section 2.3). -/
inductive WalkerState
  | off | seekLink | seekState | parked | claim | copy | retire | hold
  deriving DecidableEq, Repr

/-- The Deck Walker (chapter 2). `card` is the card the link names, then the card held in the slot. -/
structure Walker where
  state : WalkerState := .off
  cursor : Nat := 0
  card : CardId := {}
  slotHeld : Bool := false
  image : Image := .empty
  body : List Word := []
  outcome : CardOutcome := .noOutcome
  detail : Detail := .noDetail
  clamped : Bool := false
  outcomeDone : Bool := false
  staged : Context := Context.defaults
  nudgePending : Bool := false
  deckWaiting : Bool := false
  /-- Whether an ABORT has reached the walker and it has still to finish with or hand over what it holds (R40). -/
  aborting : Bool := false
  /-- Whether the slot card is handed over to the Lesson Controller to be given back (R40). -/
  handed : Bool := false
  deriving DecidableEq, Repr

/-! ### Lesson Controller -/

/-- The current presentation (R54). -/
structure Current where
  card : CardId
  image : Image
  review : Bool
  deriving DecidableEq, Repr

/-- A review entry (R141). -/
structure ReviewEntry where
  card : CardId
  image : WordImage
  due : Nat
  number : Word
  deriving DecidableEq, Repr

/-- Verdicts of a try (section 1.7). -/
inductive Verdict
  | noVerdict | correct | close | wrong | timedOut | gaveUp
  deriving DecidableEq, Repr

/-- The final try as handed over at a presentation end (R114): what the decision reads, and the five record words. -/
structure FinalTry where
  tryNo : Nat
  verdict : Verdict
  score : Nat
  words : List Word
  deriving DecidableEq, Repr

/-- A presentation end under way (R55). -/
structure EndInfo where
  card : CardId
  image : Image
  /-- The final try of a WORD card; none for a SAY card. -/
  final : Option FinalTry
  /-- The outcome decided; `noOutcome` for a card inserted into the review queue. -/
  outcome : CardOutcome
  inserted : Bool
  /-- Whether the write chain has been started (R55, R161). -/
  writing : Bool
  deriving DecidableEq, Repr

/-- What the completion of a chain's access brings about. -/
inductive LcAfter
  | nothing
  /-- The Lesson Controller's starting writes are complete (R48). -/
  | started
  /-- The ACTIVE write: the hand-over (R54). -/
  | active
  /-- Write 4 of an end (R55). -/
  | endHeader
  /-- Write 6 of an end; `last` when the chain has no write 7 (R55). -/
  | endCurrent (last : Bool)
  /-- Write 7 of an end (R55). -/
  | endMirror
  /-- The RETIRED write of a card given back (R59). -/
  | gaveBack
  /-- The RETIRED write of the END card (R56). -/
  | endCardRetired
  /-- The STOPPED mirror (R50, R59). -/
  | stopped
  /-- The last write before FAULTED for LINK_RANGE (R61). -/
  | enterFaulted
  /-- The last word of a fault record (R49, R61). -/
  | faultWritten
  deriving DecidableEq, Repr

/-- One access of a chain (R45). -/
structure LcItem where
  access : LcAccess
  after : LcAfter := .nothing
  deriving DecidableEq, Repr

/-- Why the lesson closes (R44). -/
inductive CloseWhy
  | abort
  | linkRange (ref detail : Word)
  | ended
  deriving DecidableEq, Repr

/-- The stage of closing (R44). -/
inductive Closing
  | clear
  /-- ABORT in STARTING: starting writes already issued complete (R50). -/
  | start
  /-- Cards are being given back (R59, R61) or the END card retired (R56). -/
  | giveBack (why : CloseWhy)
  /-- The RETIRED copy and then the pending copies are being written (R56, R59). -/
  | copies (why : CloseWhy)
  /-- The last writes are in the chain. -/
  | final
  deriving DecidableEq, Repr

/-- The Lesson Controller (chapters 3 and 8). -/
structure Lc where
  lesson : LessonState := .stopped
  closing : Closing := .clear
  active : Context := Context.defaults
  current : Option Current := none
  ending : Option EndInfo := none
  queue : List ReviewEntry := []
  insertions : Word := 0
  taken : Word := 0
  retired : Word := 0
  judged : Word := 0
  rejected : Word := 0
  unqueued : BitVec 16 := 0
  faultCode : FaultCode := .noFault
  faultRef : Word := 0
  faultDetail : Word := 0
  deckHead : Word := 0
  setup : List Word := []
  started : Bool := false
  chain : List LcItem := []
  pendMirror : Bool := false
  pendCopies : List LcCounter := []
  /-- The remembered pause: the state before it, and whether a presentation was in progress (R57). -/
  paused : Option (LessonState × Bool) := none
  deriving DecidableEq, Repr

/-! ### Key Scanner -/

/-- Debounce states of a position (R66). -/
inductive Debounce
  | up
  | goingDown (count : Nat) (start : Word)
  | down
  | goingUp (count : Nat)
  deriving DecidableEq, Repr

/-- A key event (R70): position, meaning code 1..33, timestamp. -/
structure KeyEvent where
  pos : Nat
  meaning : Nat
  time : Word
  deriving DecidableEq, Repr

/-- The step a pass operation is at (R74). -/
inductive PassStage | read | time | slot
  deriving DecidableEq, Repr

/-- The Key Scanner (chapter 4). -/
structure Scanner where
  keys : List Debounce := List.replicate 64 .up
  deb : Nat := 5
  keyMap : List Byte := List.replicate 64 0
  fifo : List KeyEvent := []
  passOp : Option (KeyEvent × PassStage) := none
  believesFull : Bool := false
  dropped : BitVec 16 := 0
  blocked : BitVec 16 := 0
  passDropped : BitVec 16 := 0
  pendCopies : List KsCounter := []
  /-- Starting writes not yet complete (R76). -/
  starting : List KsCounter := []
  deriving DecidableEq, Repr

/-! ### Lesson Clock -/

/-- Timer states (chapter 5). -/
inductive TimerState | idle | running | frozen
  deriving DecidableEq, Repr

/-- A timer. `expired` holds an expiry delivered and not yet taken; `stale` tells that the timer has been armed since
(R104, R108). -/
structure Timer where
  state : TimerState := .idle
  left : Nat := 0
  expired : Bool := false
  stale : Bool := false
  deriving DecidableEq, Repr

/-- The Lesson Clock (R79, R82). -/
structure Clock where
  time : Word := 0
  reprompt : Timer := {}
  settle : Timer := {}
  handoffWait : Timer := {}
  restart : Timer := {}
  deriving DecidableEq, Repr

/-! ### Attempt Engine and Alignment Unit -/

/-- Attempt states (R88). -/
inductive AttemptState
  | idle | prompting | listening | settling | judging | feedback | speaking | suspended
  deriving DecidableEq, Repr

/-- The opening prompt of a try (R89). -/
inductive Opening | pending | done | cut
  deriving DecidableEq, Repr

/-- Position marks (R127). -/
inductive Mark | ok | sub | missing | swap
  deriving DecidableEq, Repr

/-- The judged values of a try (R128, R131, R132, R133). -/
structure Judged where
  matched : Nat := 0
  distance : Nat := 0
  score : Nat := 0
  subs : Nat := 0
  swaps : Nat := 0
  omissions : Nat := 0
  extras : Nat := 0
  marks : List Mark := []
  deriving DecidableEq, Repr

/-- A part of an utterance (R164). -/
inductive Part
  | word (ref : Word) (handoff : Bool) (card : Word)
  | sentence (ref : Word) (handoff : Bool) (card : Word)
  | spell (letters : List Nat)
  | letter (code : Nat)
  | cue (n : Nat)
  deriving DecidableEq, Repr

/-- The Attempt Engine (R89, R118). Sequence numbers awaited are `none` when nothing is awaited. -/
structure Engine where
  state : AttemptState := .idle
  left : AttemptState := .idle
  card : Word := 0
  image : WordImage := {}
  review : Bool := false
  sayRef : Word := 0
  tryNo : Nat := 0
  trail : List Nat := []
  live : List Nat := []
  hints : Nat := 0
  replays : Nat := 0
  slips : Nat := 0
  slipsHere : Nat := 0
  reprompts : Nat := 0
  revealed : List Nat := []
  promptCut : Bool := false
  opening : Opening := .pending
  promptStart : Word := 0
  openingDone : Option Word := none
  firstLetter : Option Word := none
  verdict : Verdict := .noVerdict
  judged : Judged := {}
  latency : Nat := 0
  duration : Nat := 0
  unspoken : Bool := false
  forcedCut : Bool := false
  shown : List (List Nat) := []
  awaitPrompt : Option Nat := none
  promptParts : List Part := []
  awaitFeedback : Option Nat := none
  awaitSay : Option Nat := none
  words : List Nat := []
  final : Bool := false
  feedbackParts : List Part := []
  feedbackDue : Bool := false
  ending : Bool := false
  keptReprompt : Bool := false
  keptSettle : Bool := false
  deriving DecidableEq, Repr

/-- The state of the Alignment Unit (R120, R121): BUSY is FILLING or TRACING. -/
inductive UnitState | idle | filling | tracing
  deriving DecidableEq, Repr

/-- The Alignment Unit (R120, R121, R134): the job's copies of its inputs, the distance tables filled so far with the
distance of each, alternate 1 first, and the traceback result. -/
structure AlignUnit where
  state : UnitState := .idle
  trail : List Nat := []
  alternates : List (List Nat) := []
  tables : List (List (List Nat)) := []
  distances : List Nat := []
  traced : Option (Verdict × Judged) := none
  deriving DecidableEq, Repr

/-! ### Line Builder -/

/-- Cell states (R151). -/
inductive CellState
  | empty | hidden | shown | revealed | typed | ok | sub | missing | swap
  deriving DecidableEq, Repr

/-- A display cell (R151). -/
structure Cell where
  letter : Nat := 0
  state : CellState := .empty
  deriving DecidableEq, Repr

/-- The write the Line Builder has next (R158, R159). -/
inductive LinePhase
  | idle
  | generationZero
  | cell (w : Nat)
  | generation
  deriving DecidableEq, Repr

/-- The Line Builder (chapter 9). -/
structure Line where
  card : Option Word := none
  gen : Word := 0
  cells : List Cell := List.replicate 32 {}
  due : Bool := false
  phase : LinePhase := .idle
  closing : Bool := false
  deriving DecidableEq, Repr

/-! ### Speech Composer -/

/-- Kinds of utterance (R164). -/
inductive UtteranceKind | prompt | echo | cue | feedback | say
  deriving DecidableEq, Repr

/-- An utterance in the queue (R164). -/
structure Utterance where
  seq : Nat
  kind : UtteranceKind
  parts : List Part
  bank : Nat
  playing : Bool := false
  deriving DecidableEq, Repr

/-- Composer states (R178). -/
inductive ComposerState | idle | gather | fill | play | gap | handoff | hushed
  deriving DecidableEq, Repr

/-- The settings an utterance takes at its start (R167). -/
structure SpeechSettings where
  rate : Nat
  wordGap : Nat
  letterGap : Nat
  phraseGap : Nat
  finalGap : Nat
  switchGap : Nat
  maxPhrase : Nat
  handoff : Bool
  handoffWait : Nat
  deriving DecidableEq, Repr

/-- The settings R167 takes from a context. -/
def SpeechSettings.of (c : Context) : SpeechSettings :=
  { rate := c.rate, wordGap := c.wordGap, letterGap := c.letterGap, phraseGap := c.phraseGap
    finalGap := c.finalGap, switchGap := c.switchGap, maxPhrase := c.maxPhrase
    handoff := c.handoff, handoffWait := c.handoffWait }

/-- A unit reference: a bank and a unit number (R170). -/
structure UnitRef where
  bank : Nat
  num : Nat
  deriving DecidableEq, Repr

/-- An item of a phrase: a unit, or a word gap of that many samples (R174). -/
inductive PhraseItem
  | unit (u : UnitRef)
  | gap (samples : Nat)
  deriving DecidableEq, Repr

/-- A phrase of a plan: units and gaps, or one hand-off (R174, R182). -/
structure Phrase where
  items : List PhraseItem := []
  handoff : Option (Word × HandoffPart) := none
  deriving DecidableEq, Repr

/-- A resolved unit: its sample span, or the silence that stands in for a bad one (R173). -/
inductive UnitHeader
  | sound (offset length : Nat)
  | silence
  deriving DecidableEq, Repr

/-- What is still to be written of a phrase. -/
inductive Seg
  | sound (offset left : Nat)
  | quiet (left : Nat)
  deriving DecidableEq, Repr

/-- The pause being written in GAP (R169, R180). -/
inductive GapKind | trailing | switch
  deriving DecidableEq, Repr

/-- Where a held utterance resumes (R186). -/
inductive Replay
  | start
  | phrase (n : Nat)
  deriving DecidableEq, Repr

/-- The hand-off record (R182). -/
structure HandoffRecord where
  seq : Nat := 0
  state : HandoffState := .idle
  ref : Word := 0
  part : HandoffPart := .word
  deriving DecidableEq, Repr

/-- A starting write of the composer (R5, R189). -/
inductive ScStart
  | recRef | recState | mirror | copy (c : ScCounter)
  deriving DecidableEq, Repr

/-- The Speech Composer (chapter 10). -/
structure Speech where
  queue : List Utterance := []
  seq : Nat := 0
  state : ComposerState := .idle
  phrase : Nat := 0
  last : Bool := false
  settings : SpeechSettings := SpeechSettings.of Context.defaults
  /-- Parts of the starting utterance not yet decoded (R175). -/
  parts : List Part := []
  /-- The reference of the string being read, and its bytes so far (R171). -/
  strRef : Option Nat := none
  strBytes : List Byte := []
  plan : List Phrase := []
  planned : Bool := false
  phrasePlan : List UnitHeader := []
  lookAhead : List UnitHeader := []
  /-- Words of the unit table entry being read (R173). -/
  hdrWords : List Word := []
  segs : List Seg := []
  /-- Sample codes read and not yet written (R179). -/
  codes : List Byte := []
  /-- The next ramp-in step 1..64, or 0 (R176). -/
  ramp : Nat := 0
  gapLeft : Nat := 0
  gap : GapKind := .trailing
  /-- Whether the composer waits for an end-mark report (R168, R183). -/
  waitMark : Bool := false
  replay : Replay := .start
  record : HandoffRecord := {}
  handoffSeq : Nat := 0
  recWrites : List RecWrite := []
  doneWanted : Bool := false
  donePending : Bool := false
  pendMirror : Bool := false
  pendCopies : List ScCounter := []
  starting : List ScStart := []
  bankFaults : BitVec 16 := 0
  handoffLapsed : BitVec 16 := 0
  echoDropped : BitVec 16 := 0
  deriving DecidableEq, Repr

/-! ### Audio Output -/

/-- States of the hush filter (R199). -/
inductive HushFilter
  | clear
  | asserting (count : Nat)
  | hushed
  | releasing (count : Nat)
  deriving DecidableEq, Repr

/-- An entry of the bank directory copy (R191). The spec says of an entry at reset only that it is absent; its table
reference 0 and empty letter and cue tables there are the model's (DESIGN CHOICE, log 23). -/
structure BankEntry where
  present : Bool := false
  count : Nat := 0
  table : Word := 0
  letters : List Nat := []
  cues : List Nat := []
  deriving DecidableEq, Repr

/-- The Audio Output (chapter 11). -/
structure Audio where
  buffer : List Int := []
  /-- The end mark: how many entries stand ahead of it (R195). -/
  mark : Option Nat := none
  /-- The end mark's report, made and not yet taken (R168). -/
  markReport : Bool := false
  volume : Nat := 20
  /-- Entries of the hush ramp still to be sent (R201). -/
  hushRamp : Nat := 0
  underrun : Bool := false
  underruns : BitVec 16 := 0
  filter : HushFilter := .clear
  hushFilt : Nat := 4
  softHush : Bool := false
  directory : List BankEntry := List.replicate 4 {}
  /-- The word of the last frame, sent in both channels (R198). -/
  codec : BitVec 16 := 0
  deriving DecidableEq, Repr

/-! ### The machine -/

/-- The whole part, and the queue of commands waiting for it. -/
structure State where
  pending : List Instr := []
  port : Port := {}
  walker : Walker := {}
  lc : Lc := {}
  scanner : Scanner := {}
  clock : Clock := {}
  engine : Engine := {}
  unit : AlignUnit := {}
  line : Line := {}
  speech : Speech := {}
  audio : Audio := {}
  deriving DecidableEq, Repr

/-- The part after power-on reset (R18, R42, R64, R78, R87, R119, R134, R150, R163, R190, R202), no command waiting. -/
def State.reset : State := {}

end Sys2Proof.Machine
end

