-- ==== Sys2Proof/Machine/Ops.lean ====
section
/-! DEFINITION. Shared operations: bytes and words, reference tests, counters, the slots of the master port, and the
updates of one block's state. -/
namespace Sys2Proof.Machine

/-! ### Bytes, words, numbers -/

/-- Byte i of a word, byte 0 the least significant (little-endian, 00_scope.md section 7). -/
def byteOf (w : Word) (i : Nat) : Byte := w.extractLsb' (8 * i) 8

/-- The four bytes of a word in memory order. -/
def wordBytes (w : Word) : List Byte := [byteOf w 0, byteOf w 1, byteOf w 2, byteOf w 3]

/-- The bytes of a run of words in memory order. -/
def wordsBytes (ws : List Word) : List Byte := ws.flatMap wordBytes

/-- The byte at an index of a byte list, 0 beyond its end. -/
def byteAt (bs : List Byte) (i : Nat) : Nat := (bs.getD i 0).toNat

/-- The 16-bit field at an index of a byte list. -/
def halfAt (bs : List Byte) (i : Nat) : Nat := byteAt bs i + 256 * byteAt bs (i + 1)

/-- The 32-bit field at an index of a byte list. -/
def wordAt (bs : List Byte) (i : Nat) : Word := BitVec.ofNat 32 (halfAt bs i + 65536 * halfAt bs (i + 2))

/-- A word from four byte values, the first in byte 0. -/
def packBytes (a b c d : Nat) : Word :=
  BitVec.ofNat 32 (a % 256 + 256 * (b % 256) + 65536 * (c % 256) + 16777216 * (d % 256))

/-- A word from two 16-bit values, the first in the low half. -/
def packHalves (a b : Nat) : Word := BitVec.ofNat 32 (a % 65536 + 65536 * (b % 65536))

/-- Clamp to lo..hi (00_scope.md section 7). -/
def clamp (lo hi n : Nat) : Nat := max lo (min hi n)

/-- A 16-bit counter's advance: it saturates at 65535 (R6). -/
def satInc (c : BitVec 16) : BitVec 16 := if c = 65535 then c else c + 1

/-- A saturating 16-bit counter's advance by n. -/
def satAdd (c : BitVec 16) (n : Nat) : BitVec 16 := BitVec.ofNat 16 (min 65535 (c.toNat + n))

/-- An interval between two captures, modulo 2^32, stored in 16 bits and saturating (R81). -/
def interval (later earlier : Word) : Nat := min 65535 (later - earlier).toNat

/-- trunc(v * num / den) toward zero (00_scope.md section 7). -/
def truncScale (v : Int) (num den : Nat) : Int := (v * num).tdiv den

/-- Add an item to a list used as a set. -/
def addOnce {α : Type} [DecidableEq α] (a : α) (l : List α) : List α := if a ∈ l then l else a :: l

/-- Remove an item from a list used as a set. -/
def without {α : Type} [DecidableEq α] (a : α) (l : List α) : List α := l.filter (· ≠ a)

/-! ### Reference tests (R2) -/

/-- A valid card reference: nonzero, a multiple of 4, no greater than 0x3FF00. -/
def validCardRef (r : Word) : Bool := r.toNat ≠ 0 && r.toNat % 4 == 0 && r.toNat ≤ 0x3FF00

/-- A valid string reference: nonzero and no greater than 0x3FFA0. -/
def validStringRef (r : Word) : Bool := r.toNat ≠ 0 && r.toNat ≤ 0x3FFA0

/-- A span of L bytes at offset x that lies inside the window. -/
def spanInside (x len : Nat) : Bool := x ≠ 0 && x + len ≤ 0x40000

/-- The aligned offset of the word that holds an offset (R2, R15). -/
def aligned (x : Nat) : Nat := x - x % 4

/-! ### Codes of section 1.7 -/

def LessonState.code : LessonState → Nat
  | .stopped => 0 | .starting => 1 | .waiting => 2 | .presenting => 3 | .paused => 4 | .ended => 5 | .faulted => 6

def FaultCode.code : FaultCode → Nat
  | .noFault => 0 | .noBank => 1 | .badSetup => 2 | .linkRange => 3 | .busError => 4

def CardState.code : CardState → Nat
  | .free => 0 | .posted => 1 | .taken => 2 | .active => 3 | .review => 4 | .retired => 5

def CardOutcome.code : CardOutcome → Nat
  | .noOutcome => 0 | .done => 1 | .unmastered => 2 | .unqueued => 3 | .rejected => 4 | .applied => 5 | .ended => 6
  | .abandoned => 7

def Detail.code : Detail → Nat
  | .noDetail => 0 | .badKind => 1 | .badSpelling => 2 | .refRange => 3

def Verdict.code : Verdict → Nat
  | .noVerdict => 0 | .correct => 1 | .close => 2 | .wrong => 3 | .timedOut => 4 | .gaveUp => 5

def CellState.code : CellState → Nat
  | .empty => 0 | .hidden => 1 | .shown => 2 | .revealed => 3 | .typed => 4 | .ok => 5 | .sub => 6 | .missing => 7
  | .swap => 8

def ComposerState.code : ComposerState → Nat
  | .idle => 0 | .gather => 1 | .fill => 2 | .play => 3 | .gap => 4 | .handoff => 5 | .hushed => 6

def HandoffState.code : HandoffState → Nat
  | .idle => 0 | .requested => 1 | .cancelled => 2

def HandoffPart.code : HandoffPart → Nat
  | .word => 0 | .sentence => 1

/-- Card kind codes (section 1.7). -/
def kindWord : Byte := 1
def kindContext : Byte := 2
def kindSay : Byte := 3
def kindEnd : Byte := 4

/-! ### Updates of one block -/

namespace State

def onPort (f : Port → Port) (s : State) : State := { s with port := f s.port }
def onWalker (f : Walker → Walker) (s : State) : State := { s with walker := f s.walker }
def onLc (f : Lc → Lc) (s : State) : State := { s with lc := f s.lc }
def onScanner (f : Scanner → Scanner) (s : State) : State := { s with scanner := f s.scanner }
def onClock (f : Clock → Clock) (s : State) : State := { s with clock := f s.clock }
def onEngine (f : Engine → Engine) (s : State) : State := { s with engine := f s.engine }
def onUnit (f : AlignUnit → AlignUnit) (s : State) : State := { s with unit := f s.unit }
def onLine (f : Line → Line) (s : State) : State := { s with line := f s.line }
def onSpeech (f : Speech → Speech) (s : State) : State := { s with speech := f s.speech }
def onAudio (f : Audio → Audio) (s : State) : State := { s with audio := f s.audio }

end State

/-! ### The slots of the master port (R14, R15) -/

def Waiting.get (w : Waiting) : Requester → Option Request
  | .walker => w.walker | .lesson => w.lesson | .engine => w.engine | .line => w.line
  | .scanner => w.scanner | .header => w.header | .sample => w.sample

def Waiting.put (w : Waiting) (r : Requester) (q : Option Request) : Waiting :=
  match r with
  | .walker => { w with walker := q }
  | .lesson => { w with lesson := q }
  | .engine => { w with engine := q }
  | .line => { w with line := q }
  | .scanner => { w with scanner := q }
  | .header => { w with header := q }
  | .sample => { w with sample := q }

/-- The access of a requester that is on the bus, if any. -/
def Port.onBus (p : Port) (r : Requester) : Option BusAccess :=
  match p.busy with
  | some b => if b.requester = r ∧ b.orphan = false then some b else none
  | none => none

/-- A requester is free when it has no access waiting or in progress (R15). An orphan still holds the bus, but its
requester has been reset (R17). -/
def Port.free (p : Port) (r : Requester) : Bool := (p.waiting.get r).isNone && (p.onBus r).isNone

/-- The access a requester has waiting or in progress. -/
def Port.outstanding (p : Port) (r : Requester) : Option Access :=
  match p.waiting.get r with
  | some q => some q.access
  | none => (p.onBus r).map (·.access)

/-- Issue an access for a requester. -/
def Port.issue (p : Port) (r : Requester) (a : Access) : Port :=
  { p with waiting := p.waiting.put r (some { access := a }) }

/-- Mark what a requester has waiting or in progress so that its data is discarded on return. -/
def Port.discard (p : Port) (r : Requester) : Port :=
  { p with
    waiting := p.waiting.put r ((p.waiting.get r).map fun q => { q with discard := true })
    busy := p.busy.map fun b => if b.requester = r then { b with discard := true } else b }

/-- The access in progress, when it is one of requester r that the test admits; what a completion event completes.
A completion with no such access in progress is no event of the part (DESIGN CHOICE, log 2). -/
def Port.completing (p : Port) (r : Requester) (test : Access → Bool) : Option BusAccess :=
  match p.busy with
  | some b => if b.requester = r && test b.access then some b else none
  | none => none

/-- The bus becomes free. -/
def Port.release (p : Port) : Port := { p with busy := none }

end Sys2Proof.Machine
end

