-- ==== Sys2Proof/Machine/Flags.lean ====
section
/-! DEFINITION. Event flags, the interrupt line, STATUS, the register reads, effective hush and the other conditions the
spec computes from state. -/
namespace Sys2Proof.Machine

/-- The flags of EVENTS, in bit order (R10, section 1.7). -/
inductive Event | report | ended | fault | reject | starved | handoff | passkey | hush
  deriving DecidableEq, Repr

/-- A flag's bit (section 1.7). -/
def Event.mask : Event → Byte
  | .report => 1 | .ended => 2 | .fault => 4 | .reject => 8 | .starved => 16 | .handoff => 32 | .passkey => 64
  | .hush => 128

/-- Set a flag of EVENTS; a flag already set stays set (R10). -/
def setEvent (e : Event) (s : State) : State := s.onPort fun p => { p with events := p.events ||| e.mask }

/-- The interrupt line: high while a set flag is enabled (R12). -/
def State.interruptLine (s : State) : Bool := s.port.events &&& s.port.enable != 0

/-- The filtered hush is on in HUSHED and RELEASING (R199). -/
def HushFilter.on : HushFilter → Bool
  | .clear => false | .asserting _ => false | .hushed => true | .releasing _ => true

/-- Effective hush (R200). -/
def Audio.hush (a : Audio) : Bool := a.filter.on || a.softHush

def State.hush (s : State) : Bool := s.audio.hush

/-- Context staged: the contexts differ in some field (R7, R36). -/
def State.contextStaged (s : State) : Bool := s.walker.staged ≠ s.lc.active

/-- Closing (R44). -/
def Lc.isClosing (l : Lc) : Bool := l.closing ≠ .clear

/-- Whether an end of a presentation has been taken and is not yet over: reported by the engine's final completion, or
under way in the Lesson Controller (R55, R57, R114). -/
def State.endUnderWay (s : State) : Bool := s.engine.ending || s.lc.ending.isSome

/-- A presentation is in progress, and its end has not been taken (R57). -/
def State.presentationInProgress (s : State) : Bool := s.lc.current.isSome && !s.endUnderWay

/-- The composer is idle for REPROMPT: queue empty and no hand-off REQUESTED (R85). -/
def Speech.isIdle (c : Speech) : Bool := c.queue.isEmpty && c.record.state ≠ .requested

/-- While a hand-off of the awaited prompt is REQUESTED the engine holds every key in PROMPTING (R95). -/
def State.promptHandedOff (s : State) : Bool :=
  s.speech.record.state = .requested &&
    match s.speech.queue with
    | u :: _ => s.engine.awaitPrompt = some u.seq
    | [] => false

/-- Keys other than PASS go to the key FIFO in WAITING and PRESENTING while not closing (R71). -/
def State.keysToFifo (s : State) : Bool :=
  (s.lc.lesson = .waiting || s.lc.lesson = .presenting) && !s.lc.isClosing

/-- STATUS (R7, section 1.7). -/
def State.status (s : State) : Word :=
  BitVec.ofNat 32 (s.lc.lesson.code + 8 * s.port.refused.toNat + 16 * s.hush.toNat + 32 * s.contextStaged.toNat
    + 256 * s.port.fault.code)

/-- What a read of the slave range returns (R7): COMMAND, NUDGE and unused offsets read 0. -/
def readRegister (s : State) (offset : Word) : Word :=
  if offset = 0x00 then s.port.window
  else if offset = 0x0C then s.status
  else if offset = 0x10 then s.port.events.setWidth 32
  else if offset = 0x14 then s.port.enable.setWidth 32
  else 0

/-- The result a COMMAND or WINDOW write shows in STATUS (R7). -/
def showResult (refused : Bool) (s : State) : State := s.onPort fun p => { p with refused := refused }

/-- A presentation end reaches the Window Port (R13). -/
def coalesceEnd (s : State) : State :=
  if s.port.coalesce ≤ 1 then
    setEvent .report (s.onPort fun p => { p with coalesce := p.coalesceSetting, ended := 0 })
  else s.onPort fun p => { p with coalesce := p.coalesce - 1, ended := p.ended + 1 }

/-- The lesson enters ENDED: REPORT if a presentation has ended since the last one, reload and clear (R13). -/
def coalesceEnded (s : State) : State :=
  let s' := if s.port.ended > 0 then setEvent .report s else s
  s'.onPort fun p => { p with coalesce := p.coalesceSetting, ended := 0 }

/-- Request a write of the lesson mirror (R5, R45). -/
def touchMirror (s : State) : State := s.onLc fun l => { l with pendMirror := true }

/-- Request a write of a counter copy the Lesson Controller writes (R6, R45). -/
def touchCopy (c : LcCounter) (s : State) : State := s.onLc fun l => { l with pendCopies := addOnce c l.pendCopies }

/-- TAKEN, RETIRED, JUDGED and REJECTED advance and wrap (R6). -/
def advanceTaken (s : State) : State := touchCopy .taken (s.onLc fun l => { l with taken := l.taken + 1 })
def advanceRetired (s : State) : State := touchCopy .retired (s.onLc fun l => { l with retired := l.retired + 1 })
def advanceJudged (s : State) : State := touchCopy .judged (s.onLc fun l => { l with judged := l.judged + 1 })
def advanceRejected (s : State) : State := touchCopy .rejected (s.onLc fun l => { l with rejected := l.rejected + 1 })

/-- UNQUEUED saturates; at 65535 it neither advances nor requests a write (R6). -/
def advanceUnqueued (s : State) : State :=
  if s.lc.unqueued = 65535 then s else touchCopy .unqueued (s.onLc fun l => { l with unqueued := l.unqueued + 1 })

/-- UNDERRUNS, held by the Audio Output, copied by the Lesson Controller (R6, R196). -/
def advanceUnderruns (s : State) : State :=
  if s.audio.underruns = 65535 then s
  else touchCopy .underruns (s.onAudio fun a => { a with underruns := a.underruns + 1 })

/-- The Key Scanner's counters (R76). -/
def Scanner.count (k : Scanner) (c : KsCounter) (n : Nat) : Scanner :=
  let old : BitVec 16 := match c with | .dropped => k.dropped | .blocked => k.blocked | .passDropped => k.passDropped
  if n = 0 ∨ old = 65535 then k
  else
    let k := { k with pendCopies := addOnce c k.pendCopies }
    match c with
    | .dropped => { k with dropped := satAdd k.dropped n }
    | .blocked => { k with blocked := satAdd k.blocked n }
    | .passDropped => { k with passDropped := satAdd k.passDropped n }

/-- The Speech Composer's counters (R181). -/
def Speech.count (c : Speech) (k : ScCounter) (n : Nat) : Speech :=
  let old : BitVec 16 := match k with | .bankFaults => c.bankFaults | .handoffLapsed => c.handoffLapsed | .echoDropped => c.echoDropped
  if n = 0 ∨ old = 65535 then c
  else
    let c := { c with pendCopies := addOnce k c.pendCopies }
    match k with
    | .bankFaults => { c with bankFaults := satAdd c.bankFaults n }
    | .handoffLapsed => { c with handoffLapsed := satAdd c.handoffLapsed n }
    | .echoDropped => { c with echoDropped := satAdd c.echoDropped n }

end Sys2Proof.Machine
end

