-- ==== Sys2Proof/Machine/Operands.lean ====
section
/-! DEFINITION. The operand forms: what the words read from the window mean (cards, CONTEXT fields, setup words, strings,
unit table entries), and the words the part writes. -/
namespace Sys2Proof.Machine

/-! ### The words written into cards and the mailbox (section 1.7) -/

/-- A card's header word with a new state and the kind and tag kept (R20). -/
def headerWord (c : CardId) (st : CardState) : Word := packBytes st.code c.kind.toNat (c.tag.toNat % 256) (c.tag.toNat / 256)

/-- A card's outcome word (R24). -/
def outcomeWord (oc : CardOutcome) (d : Detail) (clamped : Bool) : Word := packBytes oc.code d.code clamped.toNat 0

/-- The lesson mirror word (R5). -/
def lessonMirrorWord (st : LessonState) (staged hush : Bool) (count : Nat) : Word :=
  packBytes st.code (staged.toNat + 2 * hush.toNat) count 0

/-- The composer mirror word (R181). -/
def composerMirrorWord (st : ComposerState) (phrase : Nat) (last : Bool) : Word :=
  packBytes st.code phrase last.toNat 0

/-- The word of the hand-off record with sequence, state and part (R183). -/
def recordStateWord (seq : Nat) (st : HandoffState) (part : HandoffPart) : Word := packBytes seq st.code part.code 0

/-- A cell word: two cells (R151). -/
def cellWord (a b : Cell) : Word := packBytes a.letter a.state.code b.letter b.state.code

/-! ### Header words read (R29) -/

/-- The card named by a reference, with the kind and tag of its header word. -/
def cardOf (ref header : Word) : CardId := { ref := ref, kind := byteOf header 1, tag := header.extractLsb' 16 16 }

/-- A header word whose state byte is POSTED. -/
def isPosted (header : Word) : Bool := byteOf header 0 == 1

/-! ### Card bodies (R25, R26, R32, R33) -/

/-- How many body words a kind has (R32). -/
def bodyWords (kind : Byte) : Nat :=
  if kind = kindWord then 30 else if kind = kindContext then 12 else if kind = kindSay then 1 else 0

/-- The byte of a body at a card offset; the body starts at 0x10. -/
def bodyByte (body : List Byte) (offset : Nat) : Nat := byteAt body (offset - 0x10)

/-- The offset of alternate k = 0..2 in a WORD card (section 1.7). -/
def alternateOffset (k : Nat) : Nat := 0x34 + 28 * k

/-- The letters of alternate k. -/
def alternateLetters (body : List Byte) (k : Nat) : List Nat :=
  (List.range (bodyByte body (alternateOffset k))).map fun i => bodyByte body (alternateOffset k + 1 + i)

/-- Whether alternate k has a length 1..24 and letters 1..27 (R33 test 3). -/
def alternateOk (body : List Byte) (k : Nat) : Bool :=
  let n := bodyByte body (alternateOffset k)
  1 ≤ n && n ≤ 24 && (alternateLetters body k).all fun c => 1 ≤ c && c ≤ 27

/-- An inner window as read: low 5 bits, low 5 bits, low bit (R152). -/
def innerWindow (body : List Byte) (i : Nat) : InnerWindow :=
  { start := bodyByte body (0x20 + 4 * i) % 32
    width := bodyByte body (0x21 + 4 * i) % 32
    on := bodyByte body (0x22 + 4 * i) % 2 = 1 }

/-- The mask mode from the low 2 bits of its byte (R152). -/
def maskModeOf (b : Nat) : MaskMode :=
  match b % 4 with
  | 0 => .noMask
  | 1 => .all
  | 2 => .span
  | _ => .windows

/-- The image of a WORD card (R25). -/
def wordImage (body : List Byte) : WordImage :=
  { alternates := (List.range (bodyByte body 0x10)).map (alternateLetters body)
    handoff := bodyByte body 0x11 % 2 = 1
    pron := wordAt body (0x14 - 0x10)
    sentence := wordAt body (0x18 - 0x10)
    maskMode := maskModeOf (bodyByte body 0x12)
    lead := bodyByte body 0x1C % 32
    trail := bodyByte body 0x1D % 32
    windows := (List.range 4).map (innerWindow body)
    mastery := bodyByte body 0x30 % 16
    reviews := bodyByte body 0x31 % 8
    presentations := bodyByte body 0x32 }

/-- A reference that is nonzero and out of range as a string reference (R33 tests 4 and 5). -/
def stringOutOfRange (r : Word) : Bool := r ≠ 0 && !validStringRef r

/-- What the check of a copied card finds (R33). -/
inductive CheckResult
  | reject (d : Detail)
  | merge
  | ready (img : Image)
  deriving DecidableEq, Repr

/-- The tests of R33 on a WORD card, in order. -/
def checkWord (body : List Byte) : CheckResult :=
  let count := bodyByte body 0x10
  if !(1 ≤ count && count ≤ 3) then .reject .badSpelling
  else if !((List.range count).all (alternateOk body)) then .reject .badSpelling
  else if stringOutOfRange (wordImage body).pron then .reject .refRange
  else if stringOutOfRange (wordImage body).sentence then .reject .refRange
  else .ready (.word (wordImage body))

/-- The check of a copied card (R33). -/
def checkCard (kind : Byte) (body : List Byte) : CheckResult :=
  if kind = kindWord then checkWord body
  else if kind = kindContext then .merge
  else if kind = kindSay then
    if validStringRef (wordAt body 0) then .ready (.say (wordAt body 0)) else .reject .refRange
  else if kind = kindEnd then .ready .endCard
  else .reject .badKind

/-! ### CONTEXT cards (R36, R37) -/

/-- A staged value after a merge, and whether the field was adjusted. -/
abbrev Merged (α : Type) := α × Bool

/-- KEEP. -/
def keepValue : Nat := 0xFFFF

/-- A numeric field: clamped (R37). -/
def mergeNum (lo hi old v : Nat) : Merged Nat :=
  if v = keepValue then (old, false) else (clamp lo hi v, clamp lo hi v ≠ v)

/-- REPROMPT: rounded down to a multiple of 500, then clamped (R37). -/
def mergeReprompt (old v : Nat) : Merged Nat :=
  if v = keepValue then (old, false)
  else let r := clamp 1000 30000 (v / 500 * 500); (r, r ≠ v)

/-- BANK: clamped, unchanged where the bank so named is absent (R37). -/
def mergeBank (dir : List BankEntry) (old v : Nat) : Merged Nat :=
  if v = keepValue then (old, false)
  else
    let b := clamp 0 3 v
    if (dir.getD b {}).present then (b, b ≠ v) else (old, old ≠ v)

/-- An enumerated field: the listed code, or unchanged and adjusted (R37). -/
def mergeEnum {α : Type} (codes : List α) (old : α) (v : Nat) : Merged α :=
  if v = keepValue then (old, false)
  else match codes[v]? with
    | some a => (a, false)
    | none => (old, true)

/-- The merge of a CONTEXT card, all 24 fields at once, in the order of section 1.7 (R37). -/
def mergeContext (dir : List BankEntry) (old : Context) (body : List Byte) : Context × Bool :=
  let f := fun i => halfAt body (2 * i)
  let mode := mergeEnum [Mode.whole, .live] old.mode (f 0)
  let tries := mergeNum 1 3 old.tries (f 1)
  let hintMax := mergeNum 0 7 old.hintMax (f 2)
  let slipLimit := mergeNum 1 7 old.slipLimit (f 3)
  let barge := mergeEnum [Barge.allow, .hold, .discard] old.barge (f 4)
  let echo := mergeEnum [false, true] old.echo (f 5)
  let pattern := mergeEnum [Pattern.word, .wordWord, .wordSentenceWord] old.pattern (f 6)
  let pass := mergeNum 0 100 old.pass (f 7)
  let gapBase := mergeNum 1 8 old.gapBase (f 8)
  let reviewMax := mergeNum 1 7 old.reviewMax (f 9)
  let reprompt := mergeReprompt old.reprompt (f 10)
  let reprompts := mergeNum 0 3 old.reprompts (f 11)
  let settle := mergeNum 200 3000 old.settle (f 12)
  let rate := mergeNum 8 32 old.rate (f 13)
  let wordGap := mergeNum 0 500 old.wordGap (f 14)
  let letterGap := mergeNum 0 1000 old.letterGap (f 15)
  let phraseGap := mergeNum 0 1000 old.phraseGap (f 16)
  let finalGap := mergeNum 0 2000 old.finalGap (f 17)
  let switchGap := mergeNum 0 50 old.switchGap (f 18)
  let maxPhrase := mergeNum 4 64 old.maxPhrase (f 19)
  let volume := mergeNum 0 31 old.volume (f 20)
  let bank := mergeBank dir old.bank (f 21)
  let handoff := mergeEnum [false, true] old.handoff (f 22)
  let handoffWait := mergeNum 500 10000 old.handoffWait (f 23)
  ({ mode := mode.1, tries := tries.1, hintMax := hintMax.1, slipLimit := slipLimit.1, barge := barge.1
     echo := echo.1, pattern := pattern.1, pass := pass.1, gapBase := gapBase.1, reviewMax := reviewMax.1
     reprompt := reprompt.1, reprompts := reprompts.1, settle := settle.1, rate := rate.1
     wordGap := wordGap.1, letterGap := letterGap.1, phraseGap := phraseGap.1, finalGap := finalGap.1
     switchGap := switchGap.1, maxPhrase := maxPhrase.1, volume := volume.1, bank := bank.1
     handoff := handoff.1, handoffWait := handoffWait.1 },
   mode.2 || tries.2 || hintMax.2 || slipLimit.2 || barge.2 || echo.2 || pattern.2 || pass.2 || gapBase.2
     || reviewMax.2 || reprompt.2 || reprompts.2 || settle.2 || rate.2 || wordGap.2 || letterGap.2 || phraseGap.2
     || finalGap.2 || switchGap.2 || maxPhrase.2 || volume.2 || bank.2 || handoff.2 || handoffWait.2)

/-! ### The setup area (R3, R48, R67, R70, R191) -/

/-- DEB, HUSHFILT and COALESCE from the word at 0x004, clamped (R3). -/
def setupDeb (w : Word) : Nat := clamp 2 15 (byteOf w 0).toNat
def setupHushFilt (w : Word) : Nat := clamp 1 15 (byteOf w 1).toNat
def setupCoalesce (w : Word) : Nat := clamp 0 7 (byteOf w 2).toNat

/-- The key map from the setup words: offsets 0x008 to 0x047 (R70). -/
def setupKeyMap (setup : List Word) : List Byte :=
  let bytes := wordsBytes ((setup.drop 2).take 16)
  (List.range 64).map fun p => bytes.getD p 0

/-- A directory entry from its 80 bytes (R191). -/
def bankEntry (bs : List Byte) : BankEntry :=
  { present := halfAt bs 4 ≠ 0
    count := min 1024 (halfAt bs 4)
    table := wordAt bs 0
    letters := (List.range 27).map fun i => halfAt bs (6 + 2 * i)
    cues := (List.range 10).map fun i => halfAt bs (0x3C + 2 * i) }

/-- The directory copy from the setup words: offsets 0x048 to 0x187 (R191). -/
def setupDirectory (setup : List Word) : List BankEntry :=
  (List.range 4).map fun b => bankEntry (wordsBytes ((setup.drop (18 + 20 * b)).take 20))

/-! ### Strings (R171, R172) -/

/-- A string's tokens: unit references and word gaps. -/
inductive Token
  | unit (u : UnitRef)
  | gap
  deriving DecidableEq, Repr

/-- The tokens of a run of bytes, and whether the end byte was met. The second byte of a long reference is data,
whatever it holds (DEDUCED, log 13); a long reference cut off by the end of the run is dropped (R171). -/
def decodeString (bank : Nat) : List Byte → List Token × Bool
  | [] => ([], false)
  | [b] =>
    if b.toNat ≤ 0x7C then ([.unit ⟨bank, b.toNat⟩], false)
    else if b.toNat ≤ 0x7E then ([.gap], false)
    else if b.toNat = 0x7F then ([], true)
    else ([], false)
  | b :: c :: rest =>
    if b.toNat ≤ 0x7C then let r := decodeString bank (c :: rest); (.unit ⟨bank, b.toNat⟩ :: r.1, r.2)
    else if b.toNat ≤ 0x7E then let r := decodeString bank (c :: rest); (.gap :: r.1, r.2)
    else if b.toNat = 0x7F then ([], true)
    else
      let r := decodeString bank rest
      (.unit ⟨b.toNat / 32 % 4, 256 * (b.toNat % 32) + c.toNat⟩ :: r.1, r.2)

/-- The words of a token list: runs of units between gaps, none of them empty (R172). -/
def tokenWords : List Token → List (List UnitRef)
  | [] => []
  | .gap :: ts => tokenWords ts
  | .unit u :: ts =>
    match ts, tokenWords ts with
    | .unit _ :: _, w :: ws => (u :: w) :: ws
    | _, ws => [u] :: ws

/-! ### Unit table entries (R173, R191, R192) -/

/-- The window offset of a unit's table entry. -/
def unitEntryOffset (e : BankEntry) (num : Nat) : Nat := e.table.toNat + 8 * num

/-- A unit reference that is bad without a read (R173). A table reference of 0 makes every unit of the bank bad (R191,
DEDUCED, log 14). -/
def badWithoutRead (dir : List BankEntry) (u : UnitRef) : Bool :=
  let e := dir.getD u.bank {}
  !e.present || e.count ≤ u.num || e.table = 0 || !spanInside (unitEntryOffset e u.num) 8

/-- How many aligned words cover an 8-byte entry (DEDUCED, log 14): two, or three where the table is not aligned. -/
def entryWords (x : Nat) : Nat := if x % 4 = 0 then 2 else 3

/-- The unit that an entry's words give: its span, or the silence of a bad one (R173). -/
def unitOf (x : Nat) (ws : List Word) : UnitHeader :=
  let bs := (wordsBytes ws).drop (x % 4)
  let off := (wordAt bs 0).toNat
  let len := halfAt bs 4 % 16384
  if len = 0 then .silence else if spanInside off len then .sound off len else .silence

end Sys2Proof.Machine
end

