-- ==== Sys2Proof/Machine/Clock.lean ====
section
/-! DEFINITION. The Lesson Clock: arming, cancelling, counting and freezing timers (chapter 5). -/
namespace Sys2Proof.Machine

/-- The four timers (R82). -/
inductive TimerName | reprompt | settle | handoffWait | restart
  deriving DecidableEq, Repr

def Clock.get (c : Clock) : TimerName → Timer
  | .reprompt => c.reprompt | .settle => c.settle | .handoffWait => c.handoffWait | .restart => c.restart

def Clock.put (c : Clock) (n : TimerName) (t : Timer) : Clock :=
  match n with
  | .reprompt => { c with reprompt := t }
  | .settle => { c with settle := t }
  | .handoffWait => { c with handoffWait := t }
  | .restart => { c with restart := t }

/-- The run condition of each timer (R85). -/
def State.runs (s : State) : TimerName → Bool
  | .reprompt => s.lc.lesson ≠ .paused && !s.hush && s.speech.isIdle
  | .settle => s.lc.lesson ≠ .paused
  | .handoffWait => s.speech.record.state = .requested
  | .restart => !s.hush

/-- A timer under its condition: RUNNING and FROZEN follow it, IDLE does not (R85). -/
def Timer.retime (t : Timer) (runs : Bool) : Timer :=
  match t.state with
  | .idle => t
  | _ => { t with state := if runs then .running else .frozen }

/-- Re-evaluate every timer's condition (R85). -/
def retime (s : State) : State :=
  s.onClock fun c =>
    { c with
      reprompt := c.reprompt.retime (s.runs .reprompt)
      settle := c.settle.retime (s.runs .settle)
      handoffWait := c.handoffWait.retime (s.runs .handoffWait)
      restart := c.restart.retime (s.runs .restart) }

/-- Arm a timer (R82): the full duration, RUNNING or FROZEN by its condition. An expiry delivered and not yet taken
becomes stale (R104, R108). -/
def arm (n : TimerName) (ms : Nat) (s : State) : State :=
  s.onClock fun c =>
    c.put n { c.get n with state := if s.runs n then .running else .frozen, left := ms, stale := (c.get n).expired }

/-- Cancel a timer (R84): IDLE, the remaining time discarded. An expiry already delivered stays delivered. -/
def cancel (n : TimerName) (s : State) : State :=
  s.onClock fun c => c.put n { c.get n with state := .idle, left := 0 }

/-- One millisecond step at a timer (R83): a RUNNING timer loses 1 ms, and at 0 becomes IDLE and delivers its expiry. -/
def Timer.tick (t : Timer) : Timer :=
  match t.state with
  | .running =>
    if t.left ≤ 1 then { state := .idle, left := 0, expired := true, stale := false } else { t with left := t.left - 1 }
  | _ => t

/-- One millisecond step at the clock: the count advances and each timer counts (R79, R83). -/
def tickClock (s : State) : State :=
  s.onClock fun c =>
    { time := c.time + 1, reprompt := c.reprompt.tick, settle := c.settle.tick
      handoffWait := c.handoffWait.tick, restart := c.restart.tick }

/-- The owner takes a delivered expiry (R83): it is delivered once. -/
def takeExpiry (n : TimerName) (s : State) : State :=
  s.onClock fun c => c.put n { c.get n with expired := false, stale := false }

end Sys2Proof.Machine
end

