-- ==== Sys2Proof/Machine/Audio.lean ====
section
/-! DEFINITION. The Audio Output: sample expansion, volume, ramps, the buffer and its slots, the hush filter (chapter 11). -/
namespace Sys2Proof.Machine

/-- The linear value of a sample code (R193). -/
def linear (code : Byte) : Int :=
  let m : Nat := code.toNat % 16
  let seg : Nat := code.toNat / 16 % 8
  let mag : Int := (16 + m) * 2 ^ seg - 16
  if code.toNat ≥ 128 then -mag else mag

/-- The entry formed from a code: volume, then ramp-in step k (0 for none), each truncated toward zero (R194). -/
def formSample (code : Byte) (volume k : Nat) : Int :=
  let out := truncScale (linear code) volume 31
  if k = 0 then out else truncScale out k Config.rampSamples

/-- A ramp down over at most n entries: entry k of them becomes trunc(e * (n - k) / n), the rest are dropped
(R197, R201). -/
def rampDown (n : Nat) (buf : List Int) : List Int :=
  ((buf.take n).zipIdx 1).map fun (e, k) => truncScale e (n - k) n

/-- The cut ramp (R197): the end mark is removed without a report. -/
def cutRamp (s : State) : State :=
  s.onAudio fun a => { a with buffer := rampDown Config.rampSamples a.buffer, mark := none, markReport := false }

/-- The hush ramp (R201). -/
def hushRamp (s : State) : State :=
  s.onAudio fun a =>
    let b := rampDown Config.hushRampSamples a.buffer
    { a with buffer := b, mark := none, markReport := false, hushRamp := b.length }

/-- The composer writes a sample code (R194, R195): discarded while effective hush is on (R201), kept out by a full
buffer, and clearing the underrun flag otherwise (R196). -/
def writeSample (code : Byte) (k : Nat) (s : State) : State :=
  if s.hush then s
  else s.onAudio fun a =>
    { a with buffer := a.buffer ++ [formSample code a.volume k], underrun := false }

/-- The composer places the end mark behind the last entry (R168, R195). -/
def placeMark (s : State) : State :=
  s.onAudio fun a => { a with mark := some a.buffer.length }

/-- A frame of the codec link: the value as a 16-bit two's complement word (R198). -/
def sendFrame (v : Int) (s : State) : State := s.onAudio fun a => { a with codec := BitVec.ofInt 16 v }

/-- A slot that finds no entry and no end mark (R196): an underrun while the composer is in PLAY or GAP and hush is off.
A slot between an end mark and the taking of its report counts none (DESIGN CHOICE, log 7). -/
def emptySlot (s : State) : State :=
  if (s.speech.state = .play ∨ s.speech.state = .gap) ∧ s.hush = false ∧ s.audio.underrun = false
      ∧ s.audio.markReport = false then
    advanceUnderruns (s.onAudio fun a => { a with underrun := true })
  else s

/-- One sample slot (R195, R198, R201). -/
def slot (s : State) : State :=
  match s.audio.mark, s.audio.buffer with
  | some 0, _ => sendFrame 0 (s.onAudio fun a => { a with mark := none, markReport := true })
  | m, e :: rest =>
    sendFrame e (s.onAudio fun a =>
      { a with buffer := rest, mark := m.map (· - 1), hushRamp := a.hushRamp - 1 })
  | _, [] => sendFrame 0 (emptySlot s)

/-- One sample of the HUSH line at the filter (R199). -/
def HushFilter.sample (f : HushFilter) (filt : Nat) (active : Bool) : HushFilter :=
  match f, active with
  | .clear, true => if 1 ≥ filt then .hushed else .asserting 1
  | .clear, false => .clear
  | .asserting k, true => if k + 1 ≥ filt then .hushed else .asserting (k + 1)
  | .asserting _, false => .clear
  | .hushed, true => .hushed
  | .hushed, false => if 1 ≥ filt then .clear else .releasing 1
  | .releasing _, true => .hushed
  | .releasing k, false => if k + 1 ≥ filt then .clear else .releasing (k + 1)

/-- The volume follows the active context (R194). -/
def takeVolume (s : State) : State := s.onAudio fun a => { a with volume := s.lc.active.volume }

end Sys2Proof.Machine
end

