-- ==== Sys2Proof/Machine/Keys.lean ====
section
/-! DEFINITION. The Key Scanner: debounce, rollover, classification, the key FIFO and the pass slot (chapter 4). -/
namespace Sys2Proof.Machine

/-- Meaning codes of keys (section 1.7). -/
def meaningEnter : Nat := 28
def meaningBack : Nat := 29
def meaningHint : Nat := 30
def meaningRepeat : Nat := 31
def meaningSkip : Nat := 32
def meaningPass : Nat := 33

/-- A LETTER event (R70). -/
def KeyEvent.isLetter (e : KeyEvent) : Bool := 1 ≤ e.meaning && e.meaning ≤ 27

/-- A position whose stable state is down (R66, R69). -/
def Debounce.held : Debounce → Bool
  | .up => false | .goingDown _ _ => false | .down => true | .goingUp _ => true

/-- The held count (R69). -/
def Scanner.heldCount (k : Scanner) : Nat := k.keys.countP Debounce.held

/-! ### The key FIFO (R72, R73) -/

/-- An event arrives at the FIFO: it joins the tail, or is dropped and counted (R72). -/
def Scanner.arrive (k : Scanner) (e : KeyEvent) : Scanner :=
  if k.fifo.length < Config.fifoDepth then { k with fifo := k.fifo ++ [e] } else k.count .dropped 1

/-- Take head (R73). -/
def Scanner.takeHead (k : Scanner) : Scanner := { k with fifo := k.fifo.tail }

/-- Drop head, counted (R73). -/
def Scanner.dropHead (k : Scanner) : Scanner :=
  match k.fifo with
  | [] => k
  | _ :: rest => { k with fifo := rest }.count .dropped 1

/-- Flush letters, each counted; the other events keep their order (R73). -/
def Scanner.flushLetters (k : Scanner) : Scanner :=
  { k with fifo := k.fifo.filter (!·.isLetter) }.count .dropped (k.fifo.countP KeyEvent.isLetter)

/-- Flush all, each counted (R73). -/
def Scanner.flushAll (k : Scanner) : Scanner := { k with fifo := [] }.count .dropped k.fifo.length

/-! ### The pass slot (R74, R75) -/

/-- A pass key arrives: it starts an operation, or is dropped and counted while one is under way (R74, R75). -/
def Scanner.passKey (k : Scanner) (e : KeyEvent) : Scanner :=
  match k.passOp with
  | some _ => k.count .passDropped 1
  | none => { k with passOp := some (e, if k.believesFull then .read else .time) }

/-- The operation ends without its key placed: dropped and counted, the belief FULL (R74 step 1, R75). -/
def Scanner.passLost (k : Scanner) : Scanner :=
  match k.passOp with
  | none => k
  | some _ => { k with passOp := none, believesFull := true }.count .passDropped 1

/-- The operation goes on to a step (R74). -/
def Scanner.passStep (k : Scanner) (st : PassStage) : Scanner :=
  { k with passOp := k.passOp.map fun (e, _) => (e, st) }

/-- The slot write completes: the belief becomes FULL and the operation ends (R74 step 4). -/
def Scanner.passDone (k : Scanner) : Scanner := { k with passOp := none, believesFull := true }

/-! ### Classification and routing (R70, R71) -/

/-- Whether a meaning code makes an event (R70). -/
def makesEvent (meaning : Nat) : Bool := 1 ≤ meaning && meaning ≤ 33

/-- An event is routed by its meaning and by the lesson (R71). -/
def routeKey (e : KeyEvent) (s : State) : State :=
  if e.meaning ≠ meaningPass ∧ s.keysToFifo then s.onScanner (·.arrive e) else s.onScanner (·.passKey e)

/-- A down edge that is not blocked is classified (R70). -/
def classifyKey (p : Nat) (time : Word) (s : State) : State :=
  let meaning := byteAt s.scanner.keyMap p
  if makesEvent meaning then routeKey { pos := p, meaning := meaning, time := time } s else s

/-- A down edge is accepted (R68, R69): blocked with two others held, classified otherwise; the position enters DOWN. -/
def acceptDown (p : Nat) (time : Word) (s : State) : State :=
  let s' := if s.scanner.heldCount ≥ 2 then s.onScanner (·.count .blocked 1) else classifyKey p time s
  s'.onScanner fun k => { k with keys := k.keys.set p .down }

/-- One sample of one position (R66). -/
def samplePosition (passTime : Word) (p : Nat) (down : Bool) (s : State) : State :=
  let put := fun (d : Debounce) => s.onScanner fun k => { k with keys := k.keys.set p d }
  match s.scanner.keys.getD p .up, down with
  | .up, true => put (.goingDown 1 passTime)
  | .up, false => s
  | .goingDown k t, true => if k + 1 ≥ s.scanner.deb then acceptDown p t s else put (.goingDown (k + 1) t)
  | .goingDown _ _, false => put .up
  | .down, true => s
  | .down, false => put (.goingUp 1)
  | .goingUp _, true => put .down
  | .goingUp k, false => if k + 1 ≥ s.scanner.deb then put .up else put (.goingUp (k + 1))

/-- One scan pass: positions 0 to 63 in ascending order (R65). -/
def scanPass (passTime : Word) (keys : BitVec 64) (s : State) : State :=
  (List.range 64).foldl (fun s p => samplePosition passTime p (keys.getLsbD p) s) s

/-- Runs in progress are forgotten at RUN (R68). -/
def Debounce.settleRun : Debounce → Debounce
  | .up => .up | .goingDown _ _ => .up | .down => .down | .goingUp _ => .down

/-- The Key Scanner at RUN acceptance (R77, R78). -/
def Scanner.atRun (k : Scanner) : Scanner :=
  { k with keys := k.keys.map Debounce.settleRun, fifo := [], dropped := 0, blocked := 0, passDropped := 0
           pendCopies := [], starting := [] }

end Sys2Proof.Machine
end

