-- ==== Sys2Proof/Machine/Align.lean ====
section
/-! DEFINITION. The Alignment Unit: distance tables, the matched alternate, traceback, verdict and score (chapter 7). -/
namespace Sys2Proof.Machine

/-- Letter i = 1.. of a list of letter codes. -/
def letterAt (l : List Nat) (i : Nat) : Nat := l.getD (i - 1) 0

/-- The swap condition at entry (i, j), as R124 states it. R124's own example, "fried" for "fired" as two substitutions, does not
follow from it: it holds there at (3, 3) and gives one swap. The condition is taken (DESIGN CHOICE, log 39). -/
def swapOk (a t : List Nat) (i j : Nat) : Bool :=
  2 ≤ i && 2 ≤ j && letterAt a i = letterAt t (j - 1) && letterAt a (i - 1) = letterAt t j
    && letterAt a i ≠ letterAt a (i - 1)

/-- An entry of a table given as a list of rows. -/
def entry (rows : List (List Nat)) (i j : Nat) : Nat := (rows.getD i []).getD j 0

/-- The least of the candidates of R123 at entry (i, j), i and j at least 1: `rows` holds the rows before row i and `row`
the entries of row i before column j. -/
def tableEntry (a t : List Nat) (rows : List (List Nat)) (row : List Nat) (i j : Nat) : Nat :=
  let extra := entry rows (i - 1) j + 1
  let omission := row.getD (j - 1) 0 + 1
  let diagonal := entry rows (i - 1) (j - 1) + if letterAt a i = letterAt t j then 0 else 1
  let least := min extra (min omission diagonal)
  if swapOk a t i j then min least (entry rows (i - 2) (j - 2) + 1) else least

/-- Row i of the table, from j = 0 upward (R123). -/
def tableRow (a t : List Nat) (rows : List (List Nat)) (i : Nat) : List Nat :=
  (List.range (t.length + 1)).foldl (fun row j =>
    row ++ [if i = 0 then j else if j = 0 then i else tableEntry a t rows row i j]) []

/-- The distance table of an alternate, row by row (R123). -/
def distanceTable (a t : List Nat) : List (List Nat) :=
  (List.range (a.length + 1)).foldl (fun rows i => rows ++ [tableRow a t rows i]) []

/-- An alternate's distance (R123). -/
def distance (a t : List Nat) : Nat := entry (distanceTable a t) a.length t.length

/-- The least of the distances with the lowest alternate number, from number k on (R125). -/
def matchFrom : Nat → List Nat → Nat × Nat
  | k, [] => (k, 0)
  | k, [d] => (k, d)
  | k, d :: ds =>
    let r := matchFrom (k + 1) ds
    if d ≤ r.2 then (k, d) else r

/-- The matched alternate (R125): its number and its distance. -/
def matchedAlternate (ds : List Nat) : Nat × Nat := matchFrom 1 ds

/-- A move of the traceback (R126). -/
inductive Move | diagonal | swap | omission | extra
  deriving DecidableEq, Repr

/-- The first consistent move at (i, j) in the order of R126. -/
def moveAt (a t : List Nat) (d : List (List Nat)) (i j : Nat) : Move :=
  let here := entry d i j
  if 1 ≤ i ∧ 1 ≤ j ∧ entry d (i - 1) (j - 1) + (if letterAt a i = letterAt t j then 0 else 1) = here then .diagonal
  else if swapOk a t i j ∧ entry d (i - 2) (j - 2) + 1 = here then .swap
  else if 1 ≤ j ∧ entry d i (j - 1) + 1 = here then .omission
  else if 1 ≤ i then .extra
  else .omission

/-- A move's marks, counts and predecessor, put in front of what the walk has gathered (R127). -/
def Judged.move (r : Judged) (m : Move) (same : Bool) : Judged :=
  match m with
  | .diagonal => if same then { r with marks := .ok :: r.marks } else { r with marks := .sub :: r.marks, subs := r.subs + 1 }
  | .swap => { r with marks := .swap :: .swap :: r.marks, swaps := r.swaps + 1 }
  | .omission => { r with marks := .missing :: r.marks, omissions := r.omissions + 1 }
  | .extra => { r with extras := r.extras + 1 }

/-- The traceback from (i, j) to (0, 0) (R126, R127); each move lowers i + j, so `fuel` i + j is enough. -/
def traceback (a t : List Nat) (d : List (List Nat)) : Nat → Nat → Nat → Judged → Judged
  | 0, _, _, r => r
  | fuel + 1, i, j, r =>
    if i = 0 ∧ j = 0 then r
    else
      let m := moveAt a t d i j
      let r := r.move m (letterAt a i = letterAt t j)
      match m with
      | .diagonal => traceback a t d fuel (i - 1) (j - 1) r
      | .swap => traceback a t d fuel (i - 2) (j - 2) r
      | .omission => traceback a t d fuel i (j - 1) r
      | .extra => traceback a t d fuel (i - 1) j r

/-- The verdict of a judging (R128). -/
def judgeVerdict (d n : Nat) : Verdict :=
  if d = 0 then .correct else if d = 1 ∧ 4 ≤ n then .close else .wrong

/-- TRACING from filled tables and their distances (R121, R126 to R128): verdict and judged values, the score still to be
formed. -/
def traceResult (a : List Nat) (alts : List (List Nat)) (tables : List (List (List Nat))) (ds : List Nat) :
    Verdict × Judged :=
  let m := matchedAlternate ds
  let t := alts.getD (m.1 - 1) []
  let r := traceback a t (tables.getD (m.1 - 1) []) (a.length + t.length) a.length t.length {}
  (judgeVerdict m.2 t.length, { r with matched := m.1, distance := m.2 })

/-- The result of a job (R121, R128). -/
def judge (a : List Nat) (alts : List (List Nat)) : Verdict × Judged :=
  traceResult a alts (alts.map (distanceTable a)) (alts.map (distance a))

/-! ### The unit at work (R120, R121) -/

/-- BUSY (R120). -/
def AlignUnit.busy (u : AlignUnit) : Bool := u.state ≠ .idle

/-- A request copies the trail and the alternates and begins FILLING (R120, R121). -/
def AlignUnit.request (trail : List Nat) (alternates : List (List Nat)) : AlignUnit :=
  { state := .filling, trail := trail, alternates := alternates }

/-- The alternates whose tables are still to be filled. -/
def AlignUnit.unfilled (u : AlignUnit) : List (List Nat) := u.alternates.drop u.tables.length

/-- The table of an alternate is filled and its distance kept (R121). -/
def AlignUnit.fill (u : AlignUnit) (t : List Nat) : AlignUnit :=
  let d := distanceTable u.trail t
  { u with tables := u.tables ++ [d], distances := u.distances ++ [entry d u.trail.length t.length] }

/-- The walk back through the matched alternate's table, the marks, counts and verdict (R121). -/
def AlignUnit.trace (u : AlignUnit) : AlignUnit :=
  { u with state := .tracing, traced := some (traceResult u.trail u.alternates u.tables u.distances) }

/-- The unit goes on with its job by one piece (R121): the next table, or TRACING once every table is filled, or the
traceback. How the job is cut into pieces is the model's (DESIGN CHOICE, log 12). -/
def AlignUnit.advance (u : AlignUnit) : AlignUnit :=
  match u.state with
  | .idle => u
  | .filling =>
    match u.unfilled with
    | t :: _ => u.fill t
    | [] => { u with state := .tracing }
  | .tracing => if u.traced.isSome then u else u.trace

/-- The job's result at its completion (R121): what is left of FILLING and TRACING comes first. -/
def AlignUnit.result (u : AlignUnit) : Verdict × Judged :=
  u.traced.getD
    (let u := u.unfilled.foldl AlignUnit.fill u
     traceResult u.trail u.alternates u.tables u.distances)

/-- The score (R130). -/
def score (n d h r sl v : Nat) : Nat :=
  let base := 100 * (n - d) / n
  let penalty := 6 * h + 2 * min r 5 + 40 * v / n + 3 * min sl 10
  min 100 (base - penalty)

end Sys2Proof.Machine
end

