-- ==== Sys2Proof/Machine/Display.lean ====
section
/-! DEFINITION. The mask, the display line and the Line Builder's rewrites (chapter 9). -/
namespace Sys2Proof.Machine

/-- Positions lo..hi. -/
def positions (lo hi : Nat) : List Nat := (List.range (hi + 1 - lo)).map (· + lo)

/-- Whether the mask shows position p of an alternate of length n (R153). -/
def maskShows (img : WordImage) (n p : Nat) : Bool :=
  match img.maskMode with
  | .noMask => false
  | .all => true
  | .span => p ≤ min img.lead n || n - min img.trail n < p
  | .windows => img.windows.any fun w =>
      w.on && clamp 1 24 w.start ≤ p && p < clamp 1 24 w.start + w.width

/-- The mask-shown positions of an alternate of length n (R153). -/
def maskPositions (img : WordImage) (n : Nat) : List Nat := (positions 1 n).filter (maskShows img n)

/-- The mask-shown positions of every alternate at a try start; none in a review (R154). -/
def shownSets (img : WordImage) (review : Bool) : List (List Nat) :=
  img.alternates.map fun t => if review then [] else maskPositions img t.length

/-- The least of a list of numbers, or a default. -/
def leastOf (l : List Nat) (d : Nat) : Nat := l.foldl min (l.headD d)

/-- The display alternate (R155). -/
def displayAlternate (e : Engine) (mode : Mode) : Nat :=
  match e.verdict with
  | .noVerdict => match mode with
    | .whole => 1
    | .live => leastOf e.live 1
  | .correct => e.judged.matched
  | .close => e.judged.matched
  | .wrong => e.judged.matched
  | .timedOut => 1
  | .gaveUp => 1

/-- The cell state of a mark (R157). -/
def Mark.cell : Mark → CellState
  | .ok => .ok | .sub => .sub | .missing => .missing | .swap => .swap

/-- Cell k before the verdict (R156). -/
def typingCell (e : Engine) (alt : List Nat) (shown : List Nat) (k : Nat) : Cell :=
  if k ≤ e.trail.length then { letter := letterAt e.trail k, state := .typed }
  else if k ≤ alt.length then
    if k ∈ shown then { letter := letterAt alt k, state := .shown }
    else if k ∈ e.revealed then { letter := letterAt alt k, state := .revealed }
    else { letter := 0, state := .hidden }
  else {}

/-- Cell k after the verdict (R157). -/
def judgedCell (e : Engine) (alt : List Nat) (k : Nat) : Cell :=
  if k ≤ alt.length then
    { letter := letterAt alt k
      state := match e.verdict with
        | .timedOut => .revealed
        | .gaveUp => .revealed
        | _ => (e.judged.marks.getD (k - 1) .ok).cell }
  else {}

/-- The line worked out from the engine's state (R155 to R157). -/
def lineCells (e : Engine) (mode : Mode) : List Cell :=
  let a := displayAlternate e mode
  let alt := e.image.alternates.getD (a - 1) []
  let shown := e.shown.getD (a - 1) []
  (positions 1 32).map fun k =>
    if e.verdict = .noVerdict then typingCell e alt shown k else judgedCell e alt k

/-- A rewrite begins when it is due, none is in progress and the generation-0 write has completed (R159). -/
def beginRewrite (s : State) : State :=
  if s.line.due ∧ s.line.phase = .idle ∧ s.line.card.isSome then
    s.onLine fun l => { l with due := false, cells := lineCells s.engine s.lc.active.mode, phase := .cell 0 }
  else s

/-- A redraw request (R159, R160): not taken while closed or closing (R161, R162). -/
def redraw (s : State) : State :=
  if s.line.card.isSome ∧ s.line.closing = false then beginRewrite (s.onLine fun l => { l with due := true }) else s

/-- The Line Builder opens for a WORD presentation (R158). -/
def openLine (card : Word) (s : State) : State :=
  s.onLine fun l => { l with card := some card, gen := 0, due := false, phase := .generationZero, closing := false }

/-- The presentation end reaches the Line Builder: it finishes what is due and then closes (R161). -/
def endLine (s : State) : State := s.onLine fun l => { l with closing := l.card.isSome }

/-- The Line Builder closes and clears its card reference (R161). -/
def closeLine (s : State) : State := s.onLine fun l => { l with card := none, closing := false, due := false }

/-- ABORT and LINK_RANGE close the Line Builder at once (R162): a rewrite in progress runs to its end first. -/
def abortLine (s : State) : State :=
  if s.line.phase = .idle then closeLine s
  else s.onLine fun l => { l with due := false, closing := l.card.isSome }

/-- A bus error closes it with nothing more written (R162). -/
def dropLine (s : State) : State := closeLine (s.onLine fun l => { l with phase := .idle })

/-- A Line Builder write has completed: the next cell, the generation, or the end of the rewrite (R159). -/
def lineAdvance (s : State) : State :=
  match s.line.phase with
  | .idle => s
  | .generationZero => beginRewrite (s.onLine fun l => { l with phase := .idle })
  | .cell w =>
    if w < 15 then s.onLine fun l => { l with phase := .cell (w + 1) }
    else s.onLine fun l => { l with gen := l.gen + 1, phase := .generation }
  | .generation => beginRewrite (s.onLine fun l => { l with phase := .idle })

end Sys2Proof.Machine
end

