-- ==== Sys2Proof/Machine/Speech.lean ====
section
/-! DEFINITION. The Speech Composer's queue, plans and phrases (chapter 10), less what a completion brings about. -/
namespace Sys2Proof.Machine

/-! ### Small parts -/

/-- Places of the cues in the cue table (section 1.7). -/
def cuePraise : Nat := 1
def cuePraiseHigh : Nat := 2
def cueAlmost : Nat := 3
def cueTryAgain : Nat := 4
def cueLetsSpell : Nat := 5
def cueBuzz : Nat := 6
def cueNoMore : Nat := 7
def cueWordMissing : Nat := 8
def cueTimeUp : Nat := 9
def cueSkipped : Nat := 10

/-- A gap in milliseconds as samples at the utterance's RATE (R177). -/
def gapSamples (c : SpeechSettings) (ms : Nat) : Nat := ms * 256 / c.rate

/-- Show composer state, phrase index and last-phrase flag; a change requests the mirror write (R181). -/
def Speech.display (c : Speech) (st : ComposerState) (phrase : Nat) (last : Bool) : Speech :=
  { c with state := st, phrase := phrase, last := last
           pendMirror := c.pendMirror || (c.state ≠ st || c.phrase ≠ phrase || c.last ≠ last) }

/-- Discard plan, phrase plan, look-ahead and what is being written (R169 step 2). -/
def Speech.clearPlan (c : Speech) : Speech :=
  { c with parts := [], strRef := none, strBytes := [], plan := [], planned := false, phrasePlan := [], lookAhead := []
           hdrWords := [], segs := [], codes := [], ramp := 0, gapLeft := 0, gap := .trailing, waitMark := false }

/-- Discard what a hush discards of a planned utterance: the phrase plan and the look-ahead, not the plan (R186). -/
def Speech.clearPhrase (c : Speech) : Speech :=
  { c with phrasePlan := [], lookAhead := [], hdrWords := [], segs := [], codes := [], ramp := 0, gapLeft := 0
           gap := .trailing, waitMark := false }

/-- A read of the composer through its header requester: a string, a unit table entry or the done word (R171, R173, R184). -/
def Access.isHeaderRead : Access → Bool
  | .string _ => true
  | .unitWord _ => true
  | .doneRead => true
  | _ => false

/-- Reads in flight on either requester are discarded when they return (R169, R180, R186). -/
def discardReads (s : State) : State :=
  s.onPort fun p =>
    ((if (p.outstanding .header).any Access.isHeaderRead then p.discard .header else p).discard .sample)

/-- The record leaves REQUESTED: a done read of that request is disregarded when it returns, and none is wanted (R184). -/
def dropDone (s : State) : State :=
  (s.onPort fun p => if p.outstanding .header = some .doneRead then p.discard .header else p).onSpeech fun c =>
    { c with doneWanted := false, donePending := false }

/-- Mark record words as waiting (R118). -/
def markWords (ks : List Nat) (s : State) : State :=
  s.onEngine fun e => { e with words := ks.foldl (fun ws k => addOnce k ws) e.words }

/-- Whether a report of how the word was spoken sets a flag (R111): not in IDLE or SUSPENDED, and not in SPEAKING, whose
card has no record (R115, DEDUCED, log 35). -/
def takesSpeechFlags (st : AttemptState) : Bool :=
  st ≠ .idle && st ≠ .suspended && st ≠ .speaking

/-- An unspoken part is reported to the engine (R111, R175). -/
def reportUnspoken (s : State) : State :=
  if takesSpeechFlags s.engine.state then markWords [1] (s.onEngine fun e => { e with unspoken := true }) else s

/-- Forced cuts are reported to the engine (R111, R175). -/
def reportForced (n : Nat) (s : State) : State :=
  if n > 0 ∧ takesSpeechFlags s.engine.state then markWords [1] (s.onEngine fun e => { e with forcedCut := true }) else s

/-! ### Phrases of a part (R174) -/

/-- The phrases of a part under construction: those closed, and the items and unit count of the one open. -/
structure PhraseBuild where
  done : List Phrase := []
  items : List PhraseItem := []
  count : Nat := 0
  forced : Nat := 0

/-- Put a word at the start of a phrase, splitting it while it is longer than MAXPHRASE (R174). -/
def startWord (m : Nat) (b : PhraseBuild) : Nat → List UnitRef → PhraseBuild
  | 0, w => { b with items := w.map .unit, count := w.length }
  | fuel + 1, w =>
    if w.length ≤ m then { b with items := w.map .unit, count := w.length }
    else startWord m { b with done := b.done ++ [{ items := (w.take m).map .unit }] } fuel (w.drop m)

/-- Take the next word of a part (R174): into the open phrase with a word gap, or at the start of the next one. -/
def addWord (m gap : Nat) (b : PhraseBuild) (w : List UnitRef) : PhraseBuild :=
  let b' : PhraseBuild := { b with forced := b.forced + if w.length > m then 1 else 0 }
  if b.count = 0 then startWord m b' w.length w
  else if b.count + w.length ≤ m then
    { b' with items := b.items ++ .gap gap :: w.map .unit, count := b.count + w.length }
  else startWord m { b' with done := b.done ++ [{ items := b.items }], items := [], count := 0 } w.length w

/-- The phrases of a part's words, and how many words were split (R174, R175). -/
def partPhrases (m gap : Nat) (words : List (List UnitRef)) : List Phrase × Nat :=
  let b := words.foldl (addWord m gap) {}
  (if b.count = 0 then b.done else b.done ++ [{ items := b.items }], b.forced)

/-! ### Making the plan (R170, R175, R182) -/

/-- What a part becomes at its utterance's start. -/
inductive PartForm
  | words (ws : List (List UnitRef)) (gapMs : Nat)
  | handoff (card : Word) (part : HandoffPart)
  | replaced
  | string (ref : Nat)

/-- The unit of a letter's name in a bank (R170). -/
def letterUnit (dir : List BankEntry) (bank code : Nat) : UnitRef :=
  ⟨bank, (dir.getD bank {}).letters.getD (code - 1) 0⟩

/-- The unit of a cue in a bank (R170). -/
def cueUnit (dir : List BankEntry) (bank n : Nat) : UnitRef := ⟨bank, (dir.getD bank {}).cues.getD (n - 1) 0⟩

/-- The form of a part (R170, R182). -/
def partForm (dir : List BankEntry) (bank : Nat) (c : SpeechSettings) : Part → PartForm
  | .word ref kindHandoff card =>
    if kindHandoff ∨ ref = 0 then (if c.handoff then .handoff card .word else .replaced) else .string ref.toNat
  | .sentence ref kindHandoff card =>
    if kindHandoff then (if c.handoff then .handoff card .sentence else .replaced) else .string ref.toNat
  | .spell letters => .words (letters.map fun l => [letterUnit dir bank l]) c.letterGap
  | .letter code => .words [[letterUnit dir bank code]] 0
  | .cue n => .words [[cueUnit dir bank n]] 0

/-- The bank of the utterance at the head (R164). -/
def Speech.bank (c : Speech) : Nat := match c.queue with | u :: _ => u.bank | [] => 0

/-- Add a part's words to the plan (R174), reporting forced cuts (R175). -/
def addWords (ws : List (List UnitRef)) (gapMs : Nat) (s : State) : State :=
  let c := s.speech
  let r := partPhrases c.settings.maxPhrase (gapSamples c.settings gapMs) ws
  reportForced r.2 (s.onSpeech fun c => { c with plan := c.plan ++ r.1 })

/-- Go on with the plan from the parts not yet decoded (R175): it stops where a string must be read. -/
def planMore : List Part → State → State
  | [], s => s.onSpeech fun c => { c with parts := [], planned := true }
  | p :: ps, s =>
    match partForm s.audio.directory s.speech.bank s.speech.settings p with
    | .words ws g => planMore ps (addWords ws g s)
    | .handoff card part => planMore ps (s.onSpeech fun c => { c with plan := c.plan ++ [{ handoff := some (card, part) }] })
    | .replaced =>
      planMore ps (addWords [[cueUnit s.audio.directory s.speech.bank cueWordMissing]] 0 (reportUnspoken s))
    | .string ref => s.onSpeech fun c => { c with parts := ps, strRef := some ref, strBytes := [] }

/-! ### Gathering (R173, R178, R180) -/

/-- The units of a phrase. -/
def Phrase.units (p : Phrase) : List UnitRef :=
  p.items.filterMap fun | .unit u => some u | .gap _ => none

/-- Phrase n of the plan. -/
def Speech.phraseAt (c : Speech) (n : Nat) : Phrase := c.plan.getD n {}

/-- Whether the composer reads the look-ahead: FILL, PLAY or the trailing GAP of a phrase of units, with a phrase of
units next (R180, DEDUCED, log 17). -/
def Speech.lookingAhead (c : Speech) : Bool :=
  (c.state = .fill || c.state = .play || (c.state = .gap && c.gap = .trailing))
    && c.phrase + 1 < c.plan.length && (c.phraseAt c.phrase).handoff.isNone
    && (c.phraseAt (c.phrase + 1)).handoff.isNone

/-- The unit references still to be resolved, of the phrase being gathered or of the look-ahead. -/
def Speech.unresolved (c : Speech) : List UnitRef :=
  if c.state = .gather ∧ c.planned then (c.phraseAt c.phrase).units.drop c.phrasePlan.length
  else if c.lookingAhead then (c.phraseAt (c.phrase + 1)).units.drop c.lookAhead.length
  else []

/-- Units resolved, added to the phrase plan or the look-ahead; the silences among them count as bad (R173). -/
def Speech.resolved (c : Speech) (us : List UnitHeader) : Speech :=
  let c := c.count .bankFaults (us.countP (· = .silence))
  if c.state = .gather then { c with phrasePlan := c.phrasePlan ++ us } else { c with lookAhead := c.lookAhead ++ us }

/-- Resolve the references that are bad without a read, up to the next that needs one (R173). -/
def absorbBad (s : State) : State :=
  let n := (s.speech.unresolved.takeWhile (badWithoutRead s.audio.directory)).length
  s.onSpeech (·.resolved (List.replicate n .silence))

/-- What is to be written for a phrase: units, bad units as silence, word gaps (R178). -/
def buildSegs : List PhraseItem → List UnitHeader → List Seg
  | [], _ => []
  | .gap n :: is, us => if n = 0 then buildSegs is us else .quiet n :: buildSegs is us
  | .unit _ :: is, u :: us =>
    (match u with | .sound off len => Seg.sound off len | .silence => .quiet Config.badUnitSamples) :: buildSegs is us
  | .unit _ :: _, [] => []

/-- The samples of a segment. -/
def Seg.samples : Seg → Nat
  | .sound _ n => n
  | .quiet n => n

/-- A phrase's total (R178). -/
def Speech.total (c : Speech) : Nat :=
  ((buildSegs (c.phraseAt c.phrase).items c.phrasePlan).map Seg.samples).sum

/-- FILL, or PLAY at once where the buffer already holds the start level (R178, R180); the look-ahead begins. -/
def enterFill (s : State) : State :=
  let s := s.onSpeech fun c =>
    let c := { c with segs := buildSegs (c.phraseAt c.phrase).items c.phrasePlan, codes := [], lookAhead := [], hdrWords := [] }
    c.display (if s.audio.buffer.length ≥ min Config.startLevel c.total then .play else .fill) c.phrase c.last
  absorbBad s

/-- The gathering of the phrase goes on; with nothing left to resolve it is filled (R178). -/
def gatherMore (s : State) : State :=
  let s := absorbBad s
  if s.speech.state = .gather ∧ s.speech.planned ∧ s.speech.unresolved = [] then enterFill s else s

/-- Phrase n begins (R176, R180, R181, R183): the look-ahead becomes its phrase plan, or it is gathered afresh in a replay
(R187); a hand-off phrase waits for an end mark. -/
def beginPhrase (n : Nat) (replayed : Bool) (s : State) : State :=
  let c := s.speech
  let ramp := n = 0 || (c.phraseAt (n - 1)).handoff.isSome || replayed
  let last := n + 1 = c.plan.length
  let s := s.onSpeech fun c =>
    { c with phrasePlan := if replayed then [] else c.lookAhead, lookAhead := []
             hdrWords := if replayed then [] else c.hdrWords, segs := [], codes := []
             ramp := if ramp then 1 else 0, gap := .trailing, gapLeft := 0, waitMark := false }
  if (c.phraseAt n).handoff.isSome then
    placeMark (s.onSpeech fun c => { c with waitMark := true }.display .handoff n last)
  else gatherMore (s.onSpeech fun c => c.display .gather n last)

/-- The end of an utterance's last trailing pause: the end mark (R168). -/
def awaitEnd (s : State) : State :=
  placeMark (s.onSpeech fun c => { c with waitMark := true }.display .gap c.phrase c.last)

/-- With the plan made, the first phrase begins (R175). -/
def beginPlan (s : State) : State :=
  if s.speech.plan = [] then awaitEnd s else beginPhrase 0 false s

/-! ### Starting (R167) -/

/-- The plan of the head is made from the settings it took (R175). -/
def makePlan (s : State) : State :=
  match s.speech.queue with
  | [] => s
  | u :: _ =>
    let s := planMore u.parts (s.onSpeech fun c => c.clearPlan.display .gather 0 false)
    if s.speech.planned then beginPlan s else s

/-- The head starts: PLAYING, with its settings from the active context (R167). -/
def startHead (s : State) : State :=
  makePlan (s.onSpeech fun c =>
    { c with queue := match c.queue with | u :: us => { u with playing := true } :: us | [] => []
             settings := SpeechSettings.of s.lc.active })

/-- The head starts if it is QUEUED, hush is off and the composer is idle (R167). -/
def tryStart (s : State) : State :=
  match s.speech.queue with
  | u :: _ => if u.playing = false ∧ s.hush = false ∧ s.speech.state = .idle then startHead s else s
  | [] => s

/-- The pause in GAP is written (R169, R180). -/
def finishGap (s : State) : State :=
  match s.speech.gap with
  | .switch => tryStart (s.onSpeech fun c => { c with gap := .trailing }.display .idle 0 false)
  | .trailing => if s.speech.last then awaitEnd s else beginPhrase (s.speech.phrase + 1) false s

/-- GAP of n samples begins; a gap of 0 samples delays nothing (R177, R180). -/
def enterGap (kind : GapKind) (n : Nat) (s : State) : State :=
  let s := s.onSpeech fun c =>
    { c with gap := kind, gapLeft := n, segs := [], codes := [], ramp := 0 }.display .gap c.phrase c.last
  if n = 0 then finishGap s else s

/-- A phrase has been written, or its hand-off is done: the trailing pause (R176, R180). -/
def trailingPause (s : State) : State :=
  let c := s.speech
  enterGap .trailing (gapSamples c.settings (if c.last then c.settings.finalGap else c.settings.phraseGap)) s

/-! ### Placement (R164 to R166) -/

/-- A QUEUED entry of kind ECHO or CUE. -/
def Utterance.looseEcho (u : Utterance) : Bool := !u.playing && u.kind = .echo
def Utterance.loose (u : Utterance) : Bool := !u.playing && (u.kind = .echo || u.kind = .cue)

/-- Remove the youngest entry that a test admits. -/
def removeYoungest (test : Utterance → Bool) (q : List Utterance) : List Utterance := (q.reverse.eraseP test).reverse

/-- The queue as it stands for a new entry of a kind, with how many entries are counted in ECHO_DROPPED, or `none` for a
refusal (R166). A queue still full after that takes no entry (DESIGN CHOICE, log 26). -/
def roomFor (kind : UtteranceKind) (q : List Utterance) : Option (List Utterance × Nat) :=
  let full := Config.utteranceDepth ≤ q.length
  match kind with
  | .feedback =>
    let q' := q.filter (!·.loose)
    if q'.length < Config.utteranceDepth then some (q', 0) else none
  | .echo => if !full then some (q, 0) else if q.any Utterance.looseEcho then some (removeYoungest Utterance.looseEcho q, 1) else none
  | .cue => if !full then some (q, 0) else if q.any Utterance.looseEcho then some (removeYoungest Utterance.looseEcho q, 1) else none
  | .prompt => if !full then some (q, 0) else if q.any Utterance.loose then some (removeYoungest Utterance.loose q, 1) else none
  | .say => if !full then some (q, 0) else if q.any Utterance.loose then some (removeYoungest Utterance.loose q, 1) else none

/-- Whether hush refuses a kind (R166). -/
def UtteranceKind.hushRefuses : UtteranceKind → Bool
  | .echo => true | .cue => true | .prompt => false | .feedback => false | .say => false

/-- A placement (R165, R166, R186): the state after it, and the sequence number of an accepted one. -/
def place (kind : UtteranceKind) (parts : List Part) (s : State) : State × Option Nat :=
  if kind.hushRefuses ∧ s.hush then (s.onSpeech (·.count .echoDropped 1), none)
  else match roomFor kind s.speech.queue with
    | none => (s.onSpeech (·.count .echoDropped (if kind.hushRefuses then 1 else 0)), none)
    | some (q, lost) =>
      let seq := (s.speech.seq + 1) % 256
      let u : Utterance := { seq := seq, kind := kind, parts := parts, bank := s.lc.active.bank }
      let s := s.onSpeech fun c => { c with queue := q ++ [u], seq := seq }.count .echoDropped lost
      let s :=
        if s.hush ∧ s.speech.state = .idle then
          s.onSpeech fun c => { c with replay := .start }.display .hushed c.phrase c.last
        else tryStart s
      (s, some seq)

/-- A placement whose number nobody awaits: echoes and cues (R93). -/
def placeLoose (kind : UtteranceKind) (parts : List Part) (s : State) : State := (place kind parts s).1

/-! ### Hand-off, cut and flush (R169, R185, R188) -/

/-- A REQUESTED record is cancelled (R185). -/
def cancelHandoff (s : State) : State :=
  if s.speech.record.state = .requested then
    cancel .handoffWait ((dropDone s).onSpeech fun c =>
      { c with record := { c.record with state := .cancelled }
               recWrites := c.recWrites ++ [.state c.record.seq .cancelled c.record.part] })
  else s

/-- The composer goes IDLE with an empty queue (R169, R181). -/
def Speech.goIdle (c : Speech) : Speech := c.clearPlan.display .idle 0 false

/-- A cut of the PLAYING head (R169 steps 1 to 5). -/
def cutPlaying (s : State) : State :=
  let s := cancelHandoff (discardReads (cutRamp s))
  let s := s.onSpeech fun c => { c.clearPlan with queue := c.queue.tail }
  if s.speech.queue = [] then s.onSpeech Speech.goIdle
  else enterGap .switch (gapSamples s.speech.settings s.speech.settings.switchGap) s

/-- A cut of the utterance held in HUSHED (R188). -/
def cutHeld (s : State) : State :=
  let s := s.onSpeech fun c => { c.clearPlan with queue := c.queue.tail, replay := .start }
  if s.speech.queue = [] then cancel .restart (s.onSpeech Speech.goIdle) else s

/-- A cut of a QUEUED entry (R169): with the last entry gone, a switch gap stops at once. -/
def cutQueued (seq : Nat) (s : State) : State :=
  let s := s.onSpeech fun c => { c with queue := c.queue.filter (·.seq ≠ seq) }
  if s.speech.queue = [] then s.onSpeech Speech.goIdle else s

/-- A cut request (R169, R188). -/
def cut (seq : Nat) (s : State) : State :=
  match s.speech.queue with
  | [] => s
  | u :: _ =>
    if u.seq = seq then
      if s.speech.state = .hushed then cutHeld s
      else if u.playing then cutPlaying s
      else cutQueued seq s
    else cutQueued seq s

/-- A flush (R169, R188, R189). -/
def flushSpeech (s : State) : State :=
  match s.speech.queue with
  | [] => s
  | u :: _ =>
    let hushed := s.speech.state = .hushed
    let s := if u.playing ∧ ¬ hushed then cutRamp s else s
    let s := cancelHandoff (discardReads s)
    let s := if hushed then cancel .restart s else s
    s.onSpeech fun c => { c with queue := [] }.goIdle

/-- The flush of a lesson that stops, faults or ends (R189): ABORT, LINK_RANGE, a BUS_ERROR fault and ENDED leave RESTART IDLE
whatever the composer holds (R86). At PAUSE only the flush of a held utterance cancels it. -/
def endSpeech (s : State) : State := cancel .restart (flushSpeech s)

end Sys2Proof.Machine
end

