-- ==== Sys2Proof/Machine/Lesson.lean ====
section
/-! DEFINITION. The Lesson Controller: the presentation choice, starts and ends, mastery, the review queue, closing, and
entering ENDED, STOPPED and FAULTED (chapters 3 and 8), with what they do to the engine and the walker. -/
namespace Sys2Proof.Machine

/-! ### The attempt record and the engine's return to IDLE (R118, R119) -/

/-- Record word k = 0..12, at card offsets 0x88 to 0xBB (R118, section 1.7). -/
def recordWord (e : Engine) (k : Nat) : Word :=
  match k with
  | 0 => packBytes e.tryNo e.trail.length e.hints e.replays
  | 1 => packBytes e.slips e.reprompts (e.promptCut.toNat + 2 * e.unspoken.toNat + 4 * e.forcedCut.toNat) e.verdict.code
  | 2 => packBytes e.judged.matched e.judged.distance e.judged.score 0
  | 3 => packBytes e.judged.subs e.judged.swaps e.judged.omissions e.judged.extras
  | 4 => packHalves e.latency e.duration
  | n => let i := 4 * (n - 5)
    packBytes (e.trail.getD i 0) (e.trail.getD (i + 1) 0) (e.trail.getD (i + 2) 0) (e.trail.getD (i + 3) 0)

/-- The card offset of record word k. -/
def recordOffset (k : Nat) : Nat := if k < 5 then 0x88 + 4 * k else 0x9C + 4 * (k - 5)

/-- A record write issued and not yet granted keeps its content when the try is dropped (R119, DEDUCED, log 21). -/
def freezeRecord (s : State) : State :=
  s.onPort fun p => { p with waiting := { p.waiting with
    engine := p.waiting.engine.map fun q => match q.access with
      | .record _ k => { q with frozen := some (q.frozen.getD (recordWord s.engine k)) }
      | _ => q } }

/-- ABORT, LINK_RANGE and BUS_ERROR return the engine to IDLE (R119). -/
def engineIdle (s : State) : State :=
  (cancel .settle (cancel .reprompt (freezeRecord s))).onEngine fun _ => {}

/-! ### The walker at ABORT (R40) -/

/-- The walker hands its slot card over to be given back (R40); the card stands in the slot until then (R21). -/
def Walker.handOver (w : Walker) : Walker := { w with handed := true }

/-- The walker in OFF holding nothing (R39, R40, R41). -/
def Walker.stop (w : Walker) : Walker :=
  { w with
    state := .off, aborting := false, handed := false, nudgePending := false, deckWaiting := false
    slotHeld := false, image := .empty, body := [] }

/-- The slot holds END (R35, R51). -/
def Walker.slotEnd (w : Walker) : Bool := w.state = .hold && w.slotHeld && w.image = .endCard

/-- A card handed over has been given back (R21, R35, R40): the slot is empty and the walker reports; after its report it
is OFF, but with END it stays in HOLD until the lesson enters STOPPED. -/
def Walker.gaveBack (w : Walker) : Walker :=
  if w.slotEnd then { w with slotHeld := false, image := .empty, body := [] } else w.stop

/-- The walker has reported that it holds nothing (R40). -/
def Walker.holdsNothing (w : Walker) : Bool := w.state = .off || (w.handed && !w.slotHeld)

/-- ABORT reaches the walker (R40): what it cannot finish or hand over at once it finishes with `aborting` set. -/
def walkerAbort (s : State) : State :=
  match s.walker.state with
  | .off => s.onWalker Walker.stop
  | .parked => s.onWalker Walker.stop
  | .hold => s.onWalker fun w => { w with aborting := true }.handOver
  | .seekLink => (s.onWalker fun w => { w with aborting := true, nudgePending := false }).onPort (·.discard .walker)
  | .seekState => (s.onWalker fun w => { w with aborting := true, nudgePending := false }).onPort (·.discard .walker)
  | .copy => (s.onWalker fun w => { w with aborting := true }).onPort (·.discard .walker)
  | .claim => s.onWalker fun w => { w with aborting := true }
  | .retire => s.onWalker fun w => { w with aborting := true }

/-! ### Mastery and the review queue (chapter 8) -/

/-- The new mastery (R135). -/
def newMastery (pass m : Nat) (f : FinalTry) : Nat :=
  match f.verdict with
  | .correct =>
    if f.tryNo = 1 ∧ pass ≤ f.score then (if 95 ≤ f.score then min 15 (m + 2) else min 15 (m + 1)) else m
  | .close => m - 1
  | _ => m / 2

/-- Review is needed unless the final try is CORRECT on try 1 with a score of at least PASS (R138). -/
def reviewNeeded (pass : Nat) (f : FinalTry) : Bool := !(f.verdict = .correct && f.tryNo = 1 && pass ≤ f.score)

/-- The gap of a new entry (R140). -/
def reviewGap (gapBase m : Nat) : Nat := min 15 (gapBase + m / 2)

/-- Of two entries, whether a stands before b: by due, then by earlier insertion below the current count (R141, R142). -/
def ReviewEntry.before (now : Word) (a b : ReviewEntry) : Bool :=
  a.due < b.due || (a.due = b.due && (now - b.number).toNat ≤ (now - a.number).toNat)

/-- Put an entry in its place in the order. -/
def insertInOrder (now : Word) (e : ReviewEntry) : List ReviewEntry → List ReviewEntry
  | [] => [e]
  | x :: xs => if e.before now x then e :: x :: xs else x :: insertInOrder now e xs

/-- Restore the order (R142). -/
def orderQueue (now : Word) (q : List ReviewEntry) : List ReviewEntry := q.foldr (insertInOrder now) []

/-- A new entry goes after every entry whose due is equal or below and before the first whose due is higher (R142). -/
def insertNew (e : ReviewEntry) : List ReviewEntry → List ReviewEntry
  | [] => [e]
  | x :: xs => if e.due < x.due then e :: x :: xs else x :: insertNew e xs

/-- The due decrement of an end, and the order restored (R142, R144). -/
def decrementDues (now : Word) (q : List ReviewEntry) : List ReviewEntry :=
  orderQueue now (q.map fun e => { e with due := e.due - 1 })

/-- The fate of a card needing review or not (R138). -/
def reviewFate (ctx : Context) (queued reviews : Nat) (f : FinalTry) : CardOutcome :=
  if !reviewNeeded ctx.pass f then .done
  else if ctx.reviewMax ≤ reviews then .unmastered
  else if Config.reviewDepth ≤ queued then .unqueued
  else .noOutcome

/-- The on-chip decision of a WORD presentation's end (R135 to R144). -/
def decideWord (cur : Current) (img : WordImage) (f : FinalTry) (l : Lc) : Lc :=
  let ctx := l.active
  let reviews := min img.reviews ctx.reviewMax
  let fate := reviewFate ctx l.queue.length reviews f
  let inserted := fate = .noOutcome
  let img := { img with
    mastery := newMastery ctx.pass img.mastery f
    presentations := min 255 (img.presentations + 1)
    reviews := if inserted then reviews + 1 else reviews }
  let q := decrementDues l.insertions l.queue
  let info : EndInfo :=
    { card := cur.card, image := .word img, final := some f, outcome := fate, inserted := inserted, writing := false }
  if inserted then
    let e : ReviewEntry :=
      { card := cur.card, image := img, due := reviewGap ctx.gapBase img.mastery, number := l.insertions + 1 }
    { l with queue := insertNew e q, insertions := l.insertions + 1, current := none, ending := some info }
  else { l with queue := q, ending := some info }

/-- The on-chip decision of a SAY presentation's end (R55, R144). -/
def decideSay (cur : Current) (l : Lc) : Lc :=
  { l with
    queue := decrementDues l.insertions l.queue
    ending := some { card := cur.card, image := cur.image, final := none, outcome := .done, inserted := false, writing := false } }

/-- The engine reports the presentation end: the on-chip decision (R55). -/
def presentationEnded (final : Option FinalTry) (s : State) : State :=
  s.onLc fun l =>
    match l.current with
    | none => l
    | some cur =>
      match cur.image, final with
      | .word img, some f => decideWord cur img f l
      | _, _ => decideSay cur l

/-- The write chain of an end (R55). -/
def endChain (e : EndInfo) (unqueuedFull : Bool) : List LcItem :=
  let header : LcItem :=
    { access := .header e.card (if e.inserted then .review else .retired), after := .endHeader }
  let outcome : List LcItem := if e.inserted then [] else [{ access := .outcome e.card.ref e.outcome }]
  match e.final with
  | some _ =>
    [{ access := .endRecord 0 }, { access := .endRecord 1 }, { access := .endRecord 2 }, { access := .endRecord 3 }
    , { access := .endRecord 4 }, { access := .mastery }] ++ outcome ++ [header, { access := .copy .judged }]
    ++ (if e.inserted then [] else [{ access := .copy .retired }])
    ++ (if e.outcome = .unqueued ∧ ¬ unqueuedFull then [{ access := .copy .unqueued }] else [])
    ++ [{ access := .currentRef 0, after := .endCurrent (!e.inserted) }]
    ++ (if e.inserted then [{ access := .mirror, after := .endMirror }] else [])
  | none =>
    outcome ++ [header, { access := .copy .retired }, { access := .currentRef 0, after := .endCurrent true }]

/-- Put accesses at the end of the chain. -/
def Lc.append (l : Lc) (items : List LcItem) : Lc := { l with chain := l.chain ++ items }

/-! ### Presentation start and choice (R51 to R54) -/

/-- A card becomes the current presentation (R54): contexts, volume, lesson state, and the chain of its start. -/
def presentStart (cur : Current) (s : State) : State :=
  takeVolume (s.onLc fun l =>
    { l with
      current := some cur, active := s.walker.staged, lesson := .presenting }.append
      [{ access := .header cur.card .active, after := .active }, { access := .currentRef cur.card.ref }, { access := .mirror }])

/-- The slot card is presented (R54): the walker goes to SEEK_LINK (R35). -/
def presentSlot (s : State) : State :=
  let cur : Current := { card := s.walker.card, image := s.walker.image, review := false }
  presentStart cur (s.onWalker fun w => { w with state := .seekLink, slotHeld := false, image := .empty, body := [] })

/-- The head of the review queue is presented (R54, R143). -/
def presentReview (s : State) : State :=
  match s.lc.queue with
  | [] => s
  | e :: rest =>
    presentStart { card := e.card, image := .word e.image, review := true } (s.onLc fun l => { l with queue := rest })

/-- Closing begins: keys to the pass slot, the FIFO and the utterance queue flushed, RESTART IDLE (R44, R59, R73, R86, R189). -/
def beginClosing (why : CloseWhy) (s : State) : State :=
  endSpeech ((s.onLc fun l => { l with closing := .giveBack why }).onScanner Scanner.flushAll)

/-- The choice leads to ENDED: the END card is retired (R56); it stands in the slot until its RETIRED write completes (R21). -/
def closeEnded (s : State) : State :=
  let card := s.walker.card
  (beginClosing .ended s).onLc (·.append
    [{ access := .outcome card.ref .ended }, { access := .header card .retired, after := .endCardRetired }])

/-- The slot holds a ready WORD or SAY card (R51). -/
def Walker.slotReady (w : Walker) : Bool :=
  w.state = .hold && w.slotHeld && match w.image with | .word _ => true | .say _ => true | _ => false

/-- Whether the choice applies (R51): WAITING or PRESENTING, not closing, no presentation in progress or ending. -/
def State.choiceApplies (s : State) : Bool :=
  (s.lc.lesson = .waiting || s.lc.lesson = .presenting) && !s.lc.isClosing && s.lc.current.isNone && !s.endUnderWay

/-- Case 5 of the choice: WAITING, with STARVED on entry (R51, R58). -/
def starve (resumed : Bool) (s : State) : State :=
  if resumed ∨ s.lc.lesson ≠ .waiting then
    touchMirror (setEvent .starved (s.onLc fun l => { l with lesson := .waiting }))
  else s

/-- Whether the head of the review queue is due (R51 case 1). -/
def Lc.headDue (l : Lc) : Bool := match l.queue with | e :: _ => e.due = 0 | [] => false

/-- The presentation choice (R51). `resumed` tells that RESUME applies it (R58). -/
def choose (resumed : Bool) (s : State) : State :=
  if !s.choiceApplies then s
  else if s.lc.headDue then presentReview s
  else if s.walker.slotReady then presentSlot s
  else if s.lc.queue ≠ [] ∧ (s.walker.slotEnd ∨ s.walker.deckWaiting) then presentReview s
  else if s.walker.slotEnd then closeEnded s
  else starve resumed s

/-- A report of the walker applies the choice while the lesson is WAITING (R52). -/
def walkerReport (s : State) : State := if s.lc.lesson = .waiting then choose false s else s

/-! ### Closing (R50, R56, R59, R61) -/

/-- An accepted ABORT or a LINK_RANGE report stops the lesson's work (R59, R61): an end already taken goes on. Once the final
completion has been taken, a rewrite of the line still due is drawn as R161 says, not dropped as R162 says of ABORT and
LINK_RANGE (DEDUCED, log 11). -/
def stopLesson (why : CloseWhy) (s : State) : State :=
  let ending := s.endUnderWay
  let s := beginClosing why s
  if ending then s else abortLine (engineIdle s)

/-- The writes that give a card back (R24, R59). -/
def giveBackItems (card : CardId) : List LcItem :=
  [{ access := .outcome card.ref .abandoned }, { access := .header card .retired, after := .gaveBack }]

/-- Every write to the current card by the engine and the Line Builder has completed (R22, R59). -/
def State.cardWritesDone (s : State) : Bool := s.port.free .engine && s.line.card.isNone

/-- The copies in the order pending writes are taken (R45). -/
def lcCopyOrder : List LcCounter := [.taken, .retired, .judged, .rejected, .unqueued, .underruns]

/-- The first pending copy in that order. -/
def Lc.nextCopy (l : Lc) : Option LcCounter := lcCopyOrder.find? (· ∈ l.pendCopies)

/-- The next give-back (R59): current card, review entries from the head, then the walker's card; after them the RETIRED
copy, and for LINK_RANGE the current card reference and FAULTED (R61). -/
def giveBackNext (why : CloseWhy) (s : State) : State :=
  match s.lc.current with
  | some cur => if s.cardWritesDone then s.onLc (·.append (giveBackItems cur.card)) else s
  | none =>
    match s.lc.queue with
    | e :: _ => s.onLc (·.append (giveBackItems e.card))
    | [] =>
      match why with
      | .ended => s.onLc fun l => { l with closing := .copies why }.append [{ access := .copy .retired }]
      | .abort =>
        if s.walker.holdsNothing then s.onLc fun l => { l with closing := .copies why }.append [{ access := .copy .retired }]
        else if s.walker.handed then s.onLc (·.append (giveBackItems s.walker.card))
        else s
      | .linkRange _ _ =>
        s.onLc fun l => { l with closing := .copies why }.append
          [{ access := .copy .retired }, { access := .currentRef 0, after := .enterFaulted }]

/-- The lesson enters ENDED (R56): the mirror, END, REPORT by R13, the walker OFF (R39). -/
def enterEnded (s : State) : State :=
  coalesceEnded (setEvent .ended ((s.onWalker Walker.stop).onLc fun l =>
    { l with lesson := .ended, closing := .clear, paused := none }.append [{ access := .mirror }]))

/-- The lesson enters FAULTED with a fault record (R49, R61): the record, then the mirror; FAULT at the record's
completion. -/
def enterFaulted (code : FaultCode) (ref detail : Word) (s : State) : State :=
  ((s.onPort fun p => { p with fault := code }).onWalker Walker.stop).onLc fun l =>
    { l with lesson := .faulted, closing := .clear, paused := none, faultCode := code, faultRef := ref, faultDetail := detail }.append
      [{ access := .faultWord 0 (BitVec.ofNat 32 code.code) }, { access := .faultWord 1 ref }
      , { access := .faultWord 2 detail, after := .faultWritten }, { access := .mirror }]

/-- The lesson enters STOPPED (R50, R59), the walker OFF (R35, R39). -/
def enterStopped (s : State) : State :=
  (s.onWalker Walker.stop).onLc fun l => { l with lesson := .stopped, closing := .clear, paused := none }

/-- The copies stage of closing (R56, R59): the pending copies one by one, then ENDED, or the current card reference and
the STOPPED mirror. -/
def copiesNext (why : CloseWhy) (s : State) : State :=
  match why with
  | .linkRange _ _ => s
  | .ended =>
    match s.lc.nextCopy with
    | some c => s.onLc (·.append [{ access := .copy c }])
    | none => enterEnded s
  | .abort =>
    match s.lc.nextCopy with
    | some c => s.onLc (·.append [{ access := .copy c }])
    | none => s.onLc fun l => { l with closing := .final }.append
        [{ access := .currentRef 0 }, { access := .mirrorStopped, after := .stopped }]

/-- The end's write chain begins when the Line Builder has closed, or at once for a SAY card (R55, R161). -/
def startEndChain (s : State) : State :=
  match s.lc.ending with
  | some e =>
    if e.writing ∨ ¬ s.cardWritesDone then s
    else s.onLc fun l => { l with ending := some { e with writing := true } }.append (endChain e (l.unqueued = 65535))
  | none => s

/-- What the Lesson Controller does when its chain has nothing left (R45, R50, R55, R56, R59, R61). -/
def lcAdvance (s : State) : State :=
  if s.lc.chain ≠ [] then s
  else if s.endUnderWay then startEndChain s
  else match s.lc.closing with
    | .clear => s
    | .start =>
      if s.scanner.starting = [] ∧ s.speech.starting = [] then
        s.onLc fun l => { l with closing := .final }.append [{ access := .mirrorStopped, after := .stopped }]
      else s
    | .giveBack why => giveBackNext why s
    | .copies why => copiesNext why s
    | .final => s

/-- A card has been given back (R59): it is no longer held, RETIRED advances, and a change of the review queue count requests
the mirror (R145). -/
def cardGivenBack (s : State) : State :=
  advanceRetired (match s.lc.current with
    | some _ => s.onLc fun l => { l with current := none }
    | none =>
      match s.lc.queue with
      | _ :: rest => touchMirror (s.onLc fun l => { l with queue := rest })
      | [] => s.onWalker Walker.gaveBack)

/-- Write 4 of an end completes (R6, R55): JUDGED for a WORD card, RETIRED and UNQUEUED for a retired one. -/
def endHeaderDone (s : State) : State :=
  match s.lc.ending with
  | none => s
  | some e =>
    let s := if e.final.isSome then advanceJudged s else s
    if e.inserted then s
    else
      let s := advanceRetired (s.onLc fun l => { l with current := none })
      if e.outcome = .unqueued then advanceUnqueued s else s

/-- The whole end chain has completed (R55): letters flushed, the choice applied unless PAUSED or closing. -/
def endDone (s : State) : State :=
  choose false ((s.onLc fun l => { l with ending := none }).onScanner Scanner.flushLetters)

/-- What the completion of a chain's access brings about (R45). The hand-over of `active` is ACTIVE_WRITE_COMPLETE's. -/
def lcAfter (a : LcAfter) (s : State) : State :=
  match a with
  | .nothing => s
  | .started => s.onLc fun l => { l with started := true }
  | .active => s
  | .endHeader => endHeaderDone s
  | .endCurrent last => if last then endDone (coalesceEnd s) else coalesceEnd s
  | .endMirror => endDone s
  | .gaveBack => cardGivenBack s
  | .endCardRetired => advanceRetired (s.onWalker fun w => { w with slotHeld := false, image := .empty, body := [] })
  | .stopped => enterStopped s
  | .enterFaulted =>
    match s.lc.closing with
    | .copies (.linkRange r d) => enterFaulted .linkRange r d s
    | _ => s
  | .faultWritten => setEvent .fault s

/-! ### A bus error that faults the lesson (R16, R62) -/

/-- The write block answers everything waiting or wanted as discarded (R16): pass key lost and counted, pending writes
gone, record and mirror writes gone, the Line Builder's rewrite gone. -/
def discardAll (s : State) : State :=
  let s := s.onPort fun p => { p with waiting := {} }
  let s := s.onScanner fun k => { k.passLost with pendCopies := [], starting := [] }
  let s := s.onLc fun l => { l with chain := [], pendMirror := false, pendCopies := [] }
  let s := s.onSpeech fun c =>
    { c with recWrites := [], doneWanted := false, donePending := false, pendMirror := false, pendCopies := [], starting := [] }
  (dropLine s).onEngine fun e => { e with words := [] }

/-- A BUS_ERROR fault (R16, R62): every block drops what it holds, FAULT is set and the write block takes hold. -/
def busFault (s : State) : State :=
  let s := endSpeech (s.onScanner Scanner.flushAll)
  let s := dropLine (engineIdle s)
  let s := (s.onWalker Walker.stop).onLc fun l =>
    { l with lesson := .faulted, closing := .clear, current := none, ending := none, queue := []
             chain := [], paused := none, faultCode := .busError, faultRef := 0, faultDetail := 0 }
  setEvent .fault (s.onPort fun p => { p with fault := .busError, writeBlock := true })

end Sys2Proof.Machine
end

