-- ==== Sys2Proof/Machine/Attempt.lean ====
section
/-! DEFINITION. The Attempt Engine (chapter 6): tries, prompts, keys, hints, verdicts, feedback, pause and resume. -/
namespace Sys2Proof.Machine

/-! ### Prompts (R91 to R94) -/

/-- The WORD part of the card's prompt (R92, R164). -/
def Engine.wordPart (e : Engine) : Part := .word e.image.pron e.image.handoff e.card

/-- The SENTENCE part of the card's prompt (R92, R164). -/
def Engine.sentencePart (e : Engine) : Part := .sentence e.image.sentence e.image.handoff e.card

/-- The parts PATTERN gives (R92). -/
def Engine.patternParts (e : Engine) (p : Pattern) : List Part :=
  match p with
  | .word => [e.wordPart]
  | .wordWord => [e.wordPart, e.wordPart]
  | .wordSentenceWord => if e.image.sentence = 0 then [e.wordPart] else [e.wordPart, e.sentencePart, e.wordPart]

/-- Cut the prompt the engine awaits, which it then no longer awaits (R93). -/
def cutPrompt (s : State) : State :=
  match s.engine.awaitPrompt with
  | some n => cut n (s.onEngine fun e => { e with awaitPrompt := none })
  | none => s

/-- Place a prompt and await it (R91, R92); an awaited one is cut first. -/
def placePrompt (parts : List Part) (s : State) : State :=
  let r := place .prompt parts (cutPrompt s)
  r.1.onEngine fun e => { e with awaitPrompt := r.2, promptParts := parts }

/-- Arm REPROMPT with the active duration (R108). -/
def armReprompt (s : State) : State := arm .reprompt s.lc.active.reprompt s

/-- LISTENING is entered, and REPROMPT armed (R94, R108). -/
def enterListening (s : State) : State := armReprompt (s.onEngine fun e => { e with state := .listening })

/-- The opening prompt's parts by try number and PATTERN (R92). -/
def State.openingParts (s : State) : List Part :=
  if s.engine.tryNo ≤ 1 then s.engine.patternParts s.lc.active.pattern else [s.engine.wordPart]

/-- The per-try state at a try start (R89, R154). -/
def Engine.newTry (e : Engine) (tryNo : Nat) (now : Word) : Engine :=
  { e with
    state := .prompting, tryNo := tryNo, trail := []
    live := positions 1 e.image.alternates.length
    hints := 0, replays := 0, slips := 0, slipsHere := 0, reprompts := 0, revealed := [], promptCut := false
    opening := .pending, promptStart := now, openingDone := none, firstLetter := none
    verdict := .noVerdict, judged := {}, latency := 0, duration := 0
    shown := shownSets e.image e.review
    awaitPrompt := none, awaitFeedback := none, final := false, feedbackParts := [], feedbackDue := false }

/-- Every record word (R118). -/
def allWords : List Nat := List.range 13

/-- A try start (R91). While the lesson is PAUSED no prompt is placed and the engine is SUSPENDED with PROMPTING
remembered (R54). -/
def startTry (tryNo : Nat) (s : State) : State :=
  let s := s.onEngine (·.newTry tryNo s.clock.time)
  let s :=
    if s.lc.lesson = .paused then s.onEngine fun e => { e with state := .suspended, left := .prompting }
    else placePrompt s.openingParts s
  redraw (markWords allWords s)

/-- The hand-over of a WORD presentation (R54, R90, R158). -/
def handOverWord (card : Word) (img : WordImage) (review : Bool) (s : State) : State :=
  startTry 1 (openLine card (s.onEngine fun _ => { card := card, image := img, review := review }))

/-- The parts of a SAY utterance (R164). -/
def sayParts (ref card : Word) : List Part := [.sentence ref false card]

/-- Place a SAY utterance and await it (R54, R115, R117). -/
def placeSay (s : State) : State :=
  let r := place .say (sayParts s.engine.sayRef s.engine.card) s
  r.1.onEngine fun e => { e with awaitSay := r.2 }

/-- The hand-over of a SAY presentation (R54, R90): while the lesson is PAUSED nothing is placed. -/
def handOverSay (card ref : Word) (s : State) : State :=
  let s := s.onEngine fun _ => { state := .speaking, card := card, sayRef := ref }
  if s.lc.lesson = .paused then s.onEngine fun e => { e with state := .suspended, left := .speaking }
  else placeSay s

/-! ### Verdict and feedback (R110 to R113, R129 to R132) -/

/-- The latency of the try at its verdict (R112). -/
def Engine.latencyAt (e : Engine) (now : Word) : Nat :=
  match e.opening, e.openingDone with
  | .done, some t0 => interval (e.firstLetter.getD now) t0
  | _, _ => 0

/-- The number of mask-shown positions of an alternate (R129). -/
def Engine.shownCount (e : Engine) (alt : Nat) : Nat := (e.shown.getD (alt - 1) []).length

/-- The length of an alternate. -/
def Engine.altLength (e : Engine) (alt : Nat) : Nat := (e.image.alternates.getD (alt - 1) []).length

/-- The score formed at the verdict from judged values with an alignment (R129). -/
def Engine.scoreOf (e : Engine) (mode : Mode) (j : Judged) : Nat :=
  let slips := match mode with | .whole => 0 | .live => e.slips
  score (e.altLength j.matched) j.distance e.hints e.replays slips (e.shownCount j.matched)

/-- The judged values without alignment (R131). -/
def Engine.unjudged (e : Engine) : Judged := { matched := 1, distance := e.altLength 1 }

/-- The judged values of a LIVE completion (R132). -/
def Engine.liveJudged (e : Engine) (alt : Nat) : Judged :=
  { matched := alt, marks := List.replicate (e.altLength alt) .ok }

/-- The judged values with their score (R110, R129, R131). -/
def Engine.withScore (e : Engine) (mode : Mode) (v : Verdict) (j : Judged) : Judged :=
  match v with
  | .timedOut => { j with score := 0 }
  | .gaveUp => { j with score := 0 }
  | _ => { j with score := e.scoreOf mode j }

/-- Whether a try is final (R113). -/
def isFinal (v : Verdict) (tryNo tries : Nat) : Bool := v = .correct || v = .gaveUp || tryNo = tries

/-- The spell-back of an alternate (R113). -/
def Engine.spellBack (e : Engine) (alt : Nat) : Part := .spell (e.image.alternates.getD (alt - 1) [])

/-- The parts of the feedback (R113). -/
def Engine.feedbackFor (e : Engine) (v : Verdict) (final : Bool) (j : Judged) : List Part :=
  match v, final with
  | .correct, _ => [.cue (if 95 ≤ j.score then cuePraiseHigh else cuePraise)]
  | .close, false => [.cue cueAlmost, .cue cueTryAgain]
  | .close, true => [.cue cueAlmost, .cue cueLetsSpell, e.spellBack j.matched]
  | .wrong, false => [.cue cueTryAgain]
  | .wrong, true => [.cue cueLetsSpell, e.spellBack 1]
  | .timedOut, false => [.cue cueTimeUp, .cue cueTryAgain]
  | .timedOut, true => [.cue cueTimeUp, .cue cueLetsSpell, e.spellBack 1]
  | .gaveUp, _ => [.cue cueSkipped, e.spellBack 1]
  | .noVerdict, _ => []

/-- Place the feedback chosen, await it, and enter FEEDBACK (R113, R117). -/
def placeFeedback (s : State) : State :=
  let r := place .feedback s.engine.feedbackParts (s.onEngine fun e => { e with state := .feedback, feedbackDue := false })
  r.1.onEngine fun e => { e with awaitFeedback := r.2 }

/-- A verdict (R110): timers cancelled, the prompt cut, captures, score, record words, redraw and the choice of feedback.
In SUSPENDED the feedback is due, not placed (R116). -/
def verdict (v : Verdict) (j : Judged) (s : State) : State :=
  let s := cutPrompt (cancel .settle (cancel .reprompt s))
  let now := s.clock.time
  let ctx := s.lc.active
  let s := s.onEngine fun e =>
    let j := e.withScore ctx.mode v j
    let final := isFinal v e.tryNo ctx.tries
    { e with
      verdict := v, judged := j, latency := e.latencyAt now, duration := interval now e.promptStart
      final := final, feedbackParts := e.feedbackFor v final j }
  let s := redraw (markWords [1, 2, 3, 4] s)
  if s.engine.state = .suspended then s.onEngine fun e => { e with feedbackDue := true } else placeFeedback s

/-- A verdict without alignment (R131). -/
def verdictUnjudged (v : Verdict) (s : State) : State := verdict v s.engine.unjudged s

/-- A LIVE completion (R103, R104, R132). -/
def verdictLive (alt : Nat) (s : State) : State := verdict .correct (s.engine.liveJudged alt) s

/-! ### Keys (R96, R99 to R107) -/

/-- Place an echo of a letter with ECHO ON (R99, R101). -/
def echoLetter (c : Nat) (s : State) : State :=
  if s.lc.active.echo then placeLoose .echo [.letter c] s else s

/-- Place a cue. -/
def placeCue (n : Nat) (s : State) : State := placeLoose .cue [.cue n] s

/-- The first letter capture (R112). -/
def captureLetter (s : State) : State :=
  s.onEngine fun e => { e with firstLetter := some (e.firstLetter.getD s.clock.time) }

/-- The record word of trail position p = 1..32 (R118). -/
def trailWord (p : Nat) : Nat := 5 + (p - 1) / 4

/-- Append a letter: trail, record words and echo (R99, R101). -/
def appendLetter (c : Nat) (s : State) : State :=
  let p := s.engine.trail.length + 1
  redraw (markWords [0, trailWord p] (echoLetter c (s.onEngine fun e => { e with trail := e.trail ++ [c], slipsHere := 0 })))

/-- The hint alternate of LIVE mode: the lowest-numbered live alternate longer than t (R102). -/
def Engine.liveHintAlternate (e : Engine) : Nat :=
  leastOf (e.live.filter fun a => e.trail.length < e.altLength a) 0

/-- A LETTER in WHOLE mode (R99). -/
def wholeLetter (c : Nat) (s : State) : State :=
  if s.engine.trail.length < Config.trailMax then appendLetter c s else placeCue cueBuzz s

/-- BACK in WHOLE mode (R99). -/
def wholeBack (s : State) : State :=
  let t := s.engine.trail.length
  if t = 0 then s
  else redraw (markWords [0, trailWord t] (s.onEngine fun e => { e with trail := e.trail.dropLast }))

/-- A position is revealed and its letter spoken: h advances, saturating at 7 (R102, R106). -/
def revealLetter (alt p : Nat) (s : State) : State :=
  let letter := letterAt (s.engine.image.alternates.getD (alt - 1) []) p
  let s := s.onEngine fun e => { e with revealed := addOnce p e.revealed, hints := min 7 (e.hints + 1) }
  redraw (markWords [0] (placeLoose .cue [.letter letter] s))

/-- A slip (R102): counted, buzzed, and with SLIPLIMIT of them at one position an automatic hint. -/
def slip (s : State) : State :=
  let here := s.engine.slipsHere + 1
  let s := markWords [1] (placeCue cueBuzz (s.onEngine fun e => { e with slips := min 255 (e.slips + 1) }))
  if s.lc.active.slipLimit ≤ here then
    revealLetter s.engine.liveHintAlternate (s.engine.trail.length + 1) (s.onEngine fun e => { e with slipsHere := 0 })
  else s.onEngine fun e => { e with slipsHere := here }

/-- After an accepted letter (R103). -/
def afterAccepted (s : State) : State :=
  let e := s.engine
  let t := e.trail.length
  let complete := e.live.filter fun a => e.altLength a = t
  let s := cancel .settle s
  if complete = [] then enterListening s
  else if e.live.any fun a => t < e.altLength a then
    arm .settle s.lc.active.settle (s.onEngine fun e => { e with state := .settling })
  else verdictLive (leastOf complete 1) s

/-- A LETTER in LIVE mode (R101, R102, R103). The accepted letter and the alternates that leave the live set with it are one
change of the line and make one redraw request (DESIGN CHOICE, log 42). -/
def liveLetter (c : Nat) (s : State) : State :=
  let e := s.engine
  let p := e.trail.length + 1
  let fits := e.live.filter fun a => p ≤ e.altLength a && letterAt (e.image.alternates.getD (a - 1) []) p = c
  if fits = [] then slip s
  else afterAccepted (appendLetter c (s.onEngine fun e => { e with live := fits }))

/-- A LETTER in LISTENING or SETTLING, by mode (R99, R101). -/
def letterKey (c : Nat) (s : State) : State :=
  match s.lc.active.mode with
  | .whole => wholeLetter c (captureLetter s)
  | .live => liveLetter c (captureLetter s)

/-- BACK in LISTENING or SETTLING (R99, R101, R104). -/
def backKey (s : State) : State :=
  match s.lc.active.mode with
  | .whole => wholeBack s
  | .live => s

/-- The hint alternate of a HINT key (R106). -/
def State.hintAlternate (s : State) : Nat :=
  match s.lc.active.mode with
  | .whole => 1
  | .live => s.engine.liveHintAlternate

/-- The hint position: the lowest above t, neither mask-shown nor revealed (R106). -/
def Engine.hintPosition (e : Engine) (alt : Nat) : Option Nat :=
  (positions (e.trail.length + 1) (e.altLength alt)).find? fun p =>
    decide (p ∉ e.shown.getD (alt - 1) []) && decide (p ∉ e.revealed)

/-- A HINT key (R106). -/
def hintKey (s : State) : State :=
  match s.engine.hintPosition s.hintAlternate with
  | none => placeCue cueNoMore s
  | some p => if s.lc.active.hintMax ≤ s.engine.hints then placeCue cueNoMore s else revealLetter s.hintAlternate p s

/-- The replay count advances, saturating at 15 (R96, R107). -/
def countReplay (s : State) : State := markWords [0] (s.onEngine fun e => { e with replays := min 15 (e.replays + 1) })

/-- A REPEAT key in LISTENING or SETTLING (R107). -/
def repeatKey (s : State) : State :=
  let s := placePrompt (s.engine.patternParts s.lc.active.pattern) (countReplay s)
  if s.engine.state = .listening then s.onEngine fun e => { e with state := .prompting } else s

/-- A submission (R100, R120): REPROMPT cancelled, the unit's copies taken, JUDGING entered. -/
def submit (s : State) : State :=
  ((cancel .reprompt s).onUnit fun _ => .request s.engine.trail s.engine.image.alternates).onEngine fun e =>
      { e with state := .judging }

/-- The complete live alternate of SETTLING (R104). -/
def Engine.completeAlternate (e : Engine) : Nat :=
  leastOf (e.live.filter fun a => e.altLength a = e.trail.length) 1

/-- ENTER in LISTENING or SETTLING (R100, R101, R104). -/
def enterKey (s : State) : State :=
  if s.engine.state = .settling then verdictLive s.engine.completeAlternate s
  else match s.lc.active.mode with
    | .whole => if s.engine.trail = [] then s else submit s
    | .live => s

/-- What a key taken in LISTENING or SETTLING does, by its meaning (R99 to R107). -/
def keyEffect (meaning : Nat) (s : State) : State :=
  if meaning ≤ 27 then letterKey meaning s
  else if meaning = meaningEnter then enterKey s
  else if meaning = meaningBack then backKey s
  else if meaning = meaningHint then hintKey s
  else if meaning = meaningRepeat then repeatKey s
  else if meaning = meaningSkip then verdictUnjudged .gaveUp s
  else s

/-- A key taken in LISTENING or SETTLING: its effect, and REPROMPT armed unless it takes the try out of them (R108). -/
def listenKey (meaning : Nat) (s : State) : State :=
  let s := keyEffect meaning s
  if s.engine.state = .listening ∨ s.engine.state = .settling then armReprompt s else s

/-- A key cuts the prompt in PROMPTING (R96): a PENDING opening prompt becomes CUT and sets the prompt cut flag. -/
def bargeCut (s : State) : State :=
  let s := cutPrompt s
  if s.engine.opening = .pending then
    markWords [1] (s.onEngine fun e => { e with opening := .cut, promptCut := true })
  else s

/-- A key taken in PROMPTING under BARGE ALLOW (R96). -/
def bargeKey (meaning : Nat) (s : State) : State :=
  let mode := s.lc.active.mode
  if meaning ≤ 27 ∨ meaning = meaningHint ∨ (meaning = meaningBack ∧ mode = .whole) then
    listenKey meaning (enterListening (bargeCut s))
  else if meaning = meaningEnter then
    if mode = .whole ∧ s.engine.trail ≠ [] then submit (bargeCut s) else s
  else if meaning = meaningRepeat then
    placePrompt s.engine.promptParts (countReplay s)
  else if meaning = meaningSkip then verdictUnjudged .gaveUp (bargeCut s)
  else s

/-! ### Presentation end (R114, R115) -/

/-- The engine's final try as it hands it over (R114). -/
def Engine.finalTry (e : Engine) : FinalTry :=
  { tryNo := e.tryNo, verdict := e.verdict, score := e.judged.score, words := (List.range 5).map (recordWord e) }

/-- A SAY presentation is over: reported at once, the engine IDLE (R115, DEDUCED, log 10). -/
def sayEnded (s : State) : State :=
  presentationEnded none (s.onEngine fun e => { e with state := .idle, awaitSay := none })

/-- Cut the SAY the engine awaits (R115). -/
def cutSay (s : State) : State :=
  match s.engine.awaitSay with
  | some n => cut n (s.onEngine fun e => { e with awaitSay := none })
  | none => s

/-- A key in SPEAKING (R115). -/
def speakingKey (meaning : Nat) (s : State) : State :=
  if meaning = meaningEnter ∨ meaning = meaningSkip then sayEnded (cutSay (s.onScanner Scanner.takeHead))
  else if meaning = meaningRepeat then placeSay (cutSay (s.onScanner Scanner.takeHead))
  else s.onScanner Scanner.dropHead

/-- A key at the head in PROMPTING (R95 to R97). -/
def promptingKey (meaning : Nat) (s : State) : State :=
  if s.promptHandedOff then s
  else match s.lc.active.barge with
    | .hold => s
    | .discard => s.onScanner Scanner.dropHead
    | .allow => bargeKey meaning (s.onScanner Scanner.takeHead)

/-- The engine looks at the head of the FIFO, by its state (R88). -/
def headKey (meaning : Nat) (s : State) : State :=
  match s.engine.state with
  | .idle => s
  | .prompting => promptingKey meaning s
  | .listening => listenKey meaning (s.onScanner Scanner.takeHead)
  | .settling => listenKey meaning (s.onScanner Scanner.takeHead)
  | .judging => s
  | .feedback => s
  | .speaking => speakingKey meaning s
  | .suspended => s

/-! ### Reports of the composer (R93, R94, R114, R115) -/

/-- The awaited prompt has completed in PROMPTING (R94). -/
def promptDone (s : State) : State :=
  enterListening (s.onEngine fun e =>
    if e.opening = .pending then { e with opening := .done, openingDone := some s.clock.time } else e)

/-- The awaited feedback has completed (R114). -/
def feedbackDone (s : State) : State :=
  if s.engine.final then s.onEngine fun e => { e with ending := true } else startTry (s.engine.tryNo + 1) s

/-- The awaited prompt has completed in SETTLING, or in LISTENING after it: it is no longer awaited (R93, R94). -/
def promptOver (seq : Nat) (s : State) : State :=
  if s.engine.awaitPrompt = some seq then s.onEngine fun e => { e with awaitPrompt := none } else s

/-- The completion of an utterance reaches the engine (R93). -/
def utteranceDone (seq : Nat) (s : State) : State :=
  let e := s.engine
  match e.state with
  | .prompting =>
    if e.awaitPrompt = some seq then promptDone (s.onEngine fun e => { e with awaitPrompt := none }) else s
  | .settling => promptOver seq s
  | .listening => promptOver seq s
  | .feedback =>
    if e.awaitFeedback = some seq then feedbackDone (s.onEngine fun e => { e with awaitFeedback := none }) else s
  | .speaking => if e.awaitSay = some seq then sayEnded s else s
  | .idle => s
  | .judging => s
  | .suspended => s

/-! ### Timer expiries (R104, R108, R116) -/

/-- A REPROMPT expiry in LISTENING (R108). -/
def repromptListening (s : State) : State :=
  if s.engine.reprompts < s.lc.active.reprompts then
    let s := markWords [1] (s.onEngine fun e => { e with reprompts := e.reprompts + 1 })
    (placePrompt [s.engine.wordPart] s).onEngine fun e => { e with state := .prompting }
  else if s.lc.active.mode = .whole ∧ s.engine.trail ≠ [] then submit s
  else verdictUnjudged .timedOut s

/-- A REPROMPT expiry that is not stale, by the engine's state (R104, R108, R116). -/
def repromptExpired (s : State) : State :=
  match s.engine.state with
  | .listening => repromptListening s
  | .settling => verdictLive s.engine.completeAlternate s
  | .suspended => s.onEngine fun e => { e with keptReprompt := true }
  | .idle => s
  | .prompting => s
  | .judging => s
  | .feedback => s
  | .speaking => s

/-- A SETTLE expiry that is not stale, by the engine's state (R104, R116). -/
def settleExpired (s : State) : State :=
  match s.engine.state with
  | .settling => verdictLive s.engine.completeAlternate s
  | .suspended => s.onEngine fun e => { e with keptSettle := true }
  | .listening => s
  | .idle => s
  | .prompting => s
  | .judging => s
  | .feedback => s
  | .speaking => s

/-! ### The judging result (R109, R116, R122) -/

/-- The unit's result reaches the engine (R122). -/
def judgingDone (v : Verdict) (j : Judged) (s : State) : State :=
  match s.engine.state with
  | .judging => verdict v j s
  | .suspended => if s.engine.left = .judging ∧ s.engine.feedbackDue = false then verdict v j s else s
  | .idle => s
  | .prompting => s
  | .listening => s
  | .settling => s
  | .feedback => s
  | .speaking => s

/-! ### Pause and resume (R116, R117) -/

/-- PAUSE suspends the engine, unless it is IDLE or the presentation is ending (R116). -/
def suspend (s : State) : State :=
  if s.engine.state = .idle ∨ s.engine.ending then s
  else s.onEngine fun e =>
    { e with state := .suspended, left := e.state, awaitPrompt := none, awaitFeedback := none, awaitSay := none
             keptReprompt := false, keptSettle := false }

/-- What R117 places for the state left. -/
def resumePlacement (left : AttemptState) (s : State) : State :=
  match left with
  | .prompting => placePrompt [s.engine.wordPart] s
  | .listening => (placePrompt [s.engine.wordPart] s).onEngine fun e => { e with state := .prompting }
  | .settling => placePrompt [s.engine.wordPart] s
  | .judging => if s.engine.feedbackDue then placeFeedback s else s
  | .feedback => placeFeedback s
  | .speaking => placeSay s
  | .idle => s
  | .suspended => s

/-- RESUME with a presentation suspended (R116, R117): the kept expiries first, and the placement of R117 unless one of
them has acted. -/
def resumeEngine (s : State) : State :=
  if s.engine.state ≠ .suspended then s
  else
    let e := s.engine
    let s := s.onEngine fun e => { e with state := e.left, keptReprompt := false, keptSettle := false }
    if e.keptReprompt ∧ (e.left = .listening ∨ e.left = .settling) then repromptExpired s
    else if e.keptSettle ∧ e.left = .settling then settleExpired s
    else resumePlacement e.left s

end Sys2Proof.Machine
end

