-- ==== Sys2Proof/Machine/Compose.lean ====
section
/-! DEFINITION. The Speech Composer at work: completions, strings, headers, samples, buffer writes, hand-off and hush
(chapter 10), and effective hush (chapter 11). -/
namespace Sys2Proof.Machine

/-- The head completes: removed, the next head starts, the completion reported to the engine (R168). -/
def completeHead (s : State) : State :=
  match s.speech.queue with
  | [] => s
  | u :: rest => utteranceDone u.seq (tryStart (s.onSpeech fun c => { c with queue := rest }.goIdle))

/-! ### Strings and the plan (R171, R175) -/

/-- The offset of the next string word (R171). -/
def Speech.stringOffset (c : Speech) (ref : Nat) : Nat := aligned (ref + c.strBytes.length)

/-- A string word's bytes from the reference on (R171). -/
def Speech.takeString (c : Speech) (ref : Nat) (w : Word) : Speech :=
  { c with strBytes := c.strBytes ++ (if c.strBytes = [] then (wordBytes w).drop (ref % 4) else wordBytes w) }

/-- The string read so far, decoded (R171): the first 96 bytes. -/
def Speech.decoded (c : Speech) : List Token × Bool := decodeString c.bank (c.strBytes.take 96)

/-- The string has ended: its end byte was met or 96 bytes are covered (R171). -/
def Speech.stringEnded (c : Speech) : Bool := c.decoded.2 || 96 ≤ c.strBytes.length

/-- A part's string is complete: its words join the plan, and the plan goes on; an utterance without any phrase completes
at once (R167, R172, R175). -/
def stringDone (s : State) : State :=
  let parts := s.speech.parts
  let s := addWords (tokenWords s.speech.decoded.1) s.speech.settings.wordGap s
  let s := planMore parts (s.onSpeech fun c => { c with strRef := none, strBytes := [], planned := false })
  if s.speech.planned then (if s.speech.plan = [] then completeHead s else beginPhrase 0 false s) else s

/-- A string word returns (R171). -/
def stringWord (ref : Nat) (w : Word) (s : State) : State :=
  let s := s.onSpeech (·.takeString ref w)
  if s.speech.stringEnded then stringDone s else s

/-! ### Unit headers and samples (R173, R179) -/

/-- A unit table word returns (R173). -/
def headerWordRead (u : UnitRef) (w : Word) (s : State) : State :=
  let x := unitEntryOffset (s.audio.directory.getD u.bank {}) u.num
  let ws := s.speech.hdrWords ++ [w]
  if ws.length < entryWords x then s.onSpeech fun c => { c with hdrWords := ws }
  else gatherMore (s.onSpeech fun c => { c with hdrWords := [] }.resolved [unitOf x ws])

/-- The sample codes of a word that lie inside the span still to be written (R179). -/
def sampleCodes (offset left : Nat) (w : Word) : List Byte := ((wordBytes w).drop (offset % 4)).take left

/-- A sample word returns (R179). -/
def sampleWord (w : Word) (s : State) : State :=
  match s.speech.segs with
  | .sound off left :: _ => s.onSpeech fun c => { c with codes := sampleCodes off left w }
  | _ => s

/-- The sample word wanted: in FILL or PLAY, with a unit to write and no code left (R179, DESIGN CHOICE, log 15). -/
def Speech.sampleOffset (c : Speech) : Option Nat :=
  if (c.state = .fill ∨ c.state = .play) ∧ c.codes = [] then
    match c.segs with
    | .sound off _ :: _ => some (aligned off)
    | _ => none
  else none

/-! ### Buffer writes (R176, R178, R180, R194) -/

/-- The next ramp-in step after one (R176). -/
def nextRamp (k : Nat) : Nat := if k = 0 ∨ Config.rampSamples ≤ k then 0 else k + 1

/-- After a sample of the phrase: the trailing pause when it was the last, PLAY when the start level is reached (R178). -/
def afterSample (s : State) : State :=
  if s.speech.segs = [] then trailingPause s
  else if s.speech.state = .fill ∧ min Config.startLevel s.speech.total ≤ s.audio.buffer.length then
    s.onSpeech fun c => c.display .play c.phrase c.last
  else s

/-- The next sample of the phrase, when there is one to write (R178, R179). -/
def writePhrase (s : State) : State :=
  match s.speech.segs, s.speech.codes with
  | .quiet n :: rest, _ =>
    afterSample ((writeSample 0 s.speech.ramp s).onSpeech fun c =>
      { c with segs := if n ≤ 1 then rest else .quiet (n - 1) :: rest, ramp := nextRamp c.ramp })
  | .sound off left :: rest, code :: codes =>
    afterSample ((writeSample code s.speech.ramp s).onSpeech fun c =>
      { c with
        segs := if left ≤ 1 then rest else .sound (off + 1) (left - 1) :: rest
        codes := if left ≤ 1 then [] else codes
        ramp := nextRamp c.ramp })
  | _, _ => s

/-- The next silence of a pause (R180). -/
def writePause (s : State) : State :=
  if s.speech.waitMark ∨ s.speech.gapLeft = 0 then s
  else
    let s := (writeSample 0 0 s).onSpeech fun c => { c with gapLeft := c.gapLeft - 1 }
    if s.speech.gapLeft = 0 then finishGap s else s

/-- The composer writes into the buffer when it has room (R178, R195). -/
def writeBuffer (s : State) : State :=
  if Config.bufferDepth ≤ s.audio.buffer.length then s
  else match s.speech.state with
    | .fill => writePhrase s
    | .play => writePhrase s
    | .gap => writePause s
    | .idle => s
    | .gather => s
    | .handoff => s
    | .hushed => s

/-! ### Hand-off (R183 to R185) -/

/-- The sequence number of a new request: 1..255 (R182). -/
def nextHandoff (n : Nat) : Nat := if 255 ≤ n then 1 else n + 1

/-- The request of a hand-off phrase (R183). -/
def requestHandoff (s : State) : State :=
  s.onSpeech fun c =>
    match (c.phraseAt c.phrase).handoff with
    | some (ref, part) =>
      let n := nextHandoff c.handoffSeq
      { c with
        handoffSeq := n, waitMark := false, record := { seq := n, state := .requested, ref := ref, part := part }
        recWrites := c.recWrites ++ [.cardRef ref, .state n .requested part] }
    | none => c

/-- The end-mark report reaches the composer (R168, R183). -/
def markReached (s : State) : State :=
  if s.speech.waitMark then
    match s.speech.state with
    | .handoff => requestHandoff s
    | .gap => completeHead (s.onSpeech fun c => { c with waitMark := false })
    | .idle => s
    | .gather => s
    | .fill => s
    | .play => s
    | .hushed => s
  else s

/-- The hand-off is done (R184). -/
def handoffDone (s : State) : State :=
  trailingPause (cancel .handoffWait (s.onSpeech fun c =>
    { c with record := { c.record with state := .idle }
             recWrites := c.recWrites ++ [RecWrite.state c.record.seq .idle c.record.part] }))

/-- The hand-off lapses (R185): the part counts as done, and HANDOFF_WAIT is cancelled if it has been armed anew (R86). -/
def handoffLapse (s : State) : State :=
  trailingPause (cancel .handoffWait ((dropDone s).onSpeech fun c =>
    { c with record := { c.record with state := .cancelled }
             recWrites := c.recWrites ++ [RecWrite.state c.record.seq .cancelled c.record.part] }.count .handoffLapsed 1))

/-- A nudge while the record is REQUESTED (R184): one read of the done word, or done-pending while one is wanted or in
flight. -/
def nudgeComposer (s : State) : State :=
  if s.speech.record.state = .requested then
    if s.speech.doneWanted ∨ s.port.outstanding .header = some .doneRead then
      s.onSpeech fun c => { c with donePending := true }
    else s.onSpeech fun c => { c with doneWanted := true }
  else s

/-- The done word returns (R184). -/
def doneWord (w : Word) (s : State) : State :=
  if s.speech.record.state ≠ .requested then s.onSpeech fun c => { c with donePending := false }
  else if (byteOf w 0).toNat = s.speech.record.seq then handoffDone (s.onSpeech fun c => { c with donePending := false })
  else if s.speech.donePending then s.onSpeech fun c => { c with donePending := false, doneWanted := true }
  else s

/-- A done read of a request that is over returns (R184): its word is disregarded; a nudge that came meanwhile for a new
request is answered by the read that follows (DEDUCED, log 25). -/
def doneDisregarded (s : State) : State :=
  s.onSpeech fun c =>
    { c with donePending := false
             doneWanted := c.doneWanted || (c.donePending && decide (c.record.state = .requested)) }

/-- A hand-off record write completes (R183, R185). -/
def recWritten (r : RecWrite) (s : State) : State :=
  match r with
  | .cardRef _ => s
  | RecWrite.state seq st _ =>
    match st with
    | .idle => s
    | .cancelled => setEvent .handoff s
    | .requested =>
      if s.speech.record.state = .requested ∧ s.speech.record.seq = seq then
        arm .handoffWait s.speech.settings.handoffWait (setEvent .handoff s)
      else s

/-! ### Hush (R186, R187, R200) -/

/-- Where a PLAYING PROMPT, FEEDBACK or SAY resumes, or `none` where it completes at the hush (R186). -/
def Speech.replayPoint (c : Speech) : Option Replay :=
  match c.state with
  | .gather => some (if c.planned then .phrase c.phrase else .start)
  | .fill => some (.phrase c.phrase)
  | .play => some (.phrase c.phrase)
  | .gap => if c.last then none else some (.phrase (c.phrase + 1))
  | .handoff => some (.phrase c.phrase)
  | .hushed => some c.replay
  | .idle => some .start

/-- An ECHO or CUE, playing or not. -/
def Utterance.brief (u : Utterance) : Bool := u.kind = .echo || u.kind = .cue

/-- The composer after a hush with this queue left (R186). -/
def Speech.holdQueue (c : Speech) (q : List Utterance) (r : Replay) : Speech :=
  if q = [] then { c with queue := q }.goIdle
  else { c with queue := q, replay := r }.display .hushed c.phrase c.last

/-- RESTART is cancelled with nothing left to replay (R86, R188). That a hush which removes the last entry, a held ECHO or
CUE, cancels a FROZEN RESTART as a cut or a flush does is the model's (DEDUCED, log 37). -/
def dropRestart (s : State) : State := if s.speech.queue = [] then cancel .restart s else s

/-- Hush asserted, at the composer (R186). -/
def hushAsserted (s : State) : State :=
  match s.speech.queue with
  | [] => s
  | u :: us =>
    let rest := us.filter (!·.loose)
    let lost := us.countP Utterance.loose
    let s := cancelHandoff (discardReads s)
    if u.brief then
      dropRestart (s.onSpeech fun c => (c.clearPlan.holdQueue rest .start).count .echoDropped (lost + 1))
    else if u.playing = false then
      dropRestart (s.onSpeech fun c => (c.clearPlan.holdQueue (u :: rest) .start).count .echoDropped lost)
    else match s.speech.replayPoint with
      | some r =>
        s.onSpeech fun c =>
          ((if c.planned then c.clearPhrase else c.clearPlan).holdQueue (u :: rest) r).count .echoDropped lost
      | none =>
        utteranceDone u.seq (s.onSpeech fun c => (c.clearPlan.holdQueue rest .start).count .echoDropped lost)

/-- Hush released, at the composer (R187): RESTART is armed for a held utterance, and goes on from the time it kept where it
was frozen (R85, DEDUCED, log 22). -/
def hushReleased (s : State) : State :=
  if s.speech.state = .hushed ∧ s.clock.restart.state = .idle then arm .restart Config.restartMs s else s

/-- The RESTART expiry (R187). -/
def restartExpired (s : State) : State :=
  if s.speech.state = .hushed ∧ s.hush = false then
    match s.speech.queue with
    | [] => s
    | u :: _ =>
      if u.playing = false then startHead s
      else match s.speech.planned, s.speech.replay with
        | true, .phrase n => beginPhrase n true s
        | _, _ => makePlan s
  else s

/-- Effective hush after a change of the filter or of soft hush (R200): at a change of the OR, HUSH is set, the mirror
requested, and the composer told; on assertion the hush ramp starts (R201). -/
def hushChanged (before : Bool) (s : State) : State :=
  if s.hush = before then s
  else
    let s := touchMirror (setEvent .hush s)
    if s.hush then hushAsserted (hushRamp s) else hushReleased s

/-- Soft hush is set or cleared (R200). -/
def setSoftHush (on : Bool) (s : State) : State :=
  hushChanged s.hush (s.onAudio fun a => { a with softHush := on })

/-- The HUSH line is sampled (R199, R200). -/
def sampleHush (active : Bool) (s : State) : State :=
  hushChanged s.hush (s.onAudio fun a => { a with filter := a.filter.sample a.hushFilt active })

end Sys2Proof.Machine
end

