-- ==== Sys2Proof/Machine/Walk.lean ====
section
/-! DEFINITION. The Deck Walker's reactions to its reads and writes (chapter 2). -/
namespace Sys2Proof.Machine

/-- The walker would park (R28, R29, R30): straight back to SEEK_LINK with nudge-pending set, otherwise PARKED with the
deck-waiting indication raised and reported. -/
def park (s : State) : State :=
  if s.walker.nudgePending then s.onWalker fun w => { w with state := .seekLink, nudgePending := false }
  else walkerReport (s.onWalker fun w => { w with state := .parked, deckWaiting := true })

/-- The card whose link word the cursor names: 0 at the deck head (R28). -/
def Walker.linkOwner (w : Walker) : Word := if w.cursor = 0 then 0 else BitVec.ofNat 32 (w.cursor - 4)

/-- A card the part holds: the current presentation or a review entry (R29). -/
def Lc.holds (l : Lc) (ref : Word) : Bool :=
  (match l.current with | some c => c.card.ref = ref | none => false) || l.queue.any (·.card.ref = ref)

/-- The link word returns (R28, R40). At LINK_RANGE the walker that enters OFF also drops nudge-pending and the deck-waiting
indication, as it does at an ABORT (R40) and a BUS_ERROR (R41); R28, R41 and R61 say nothing of them there (DESIGN CHOICE,
log 40). -/
def linkRead (v : Word) (s : State) : State :=
  if s.walker.aborting then s.onWalker Walker.stop
  else if v = 0 then park s
  else if validCardRef v then s.onWalker fun w => { w with state := .seekState, card := { w.card with ref := v } }
  else stopLesson (.linkRange s.walker.linkOwner v) (s.onWalker Walker.stop)

/-- The header word returns (R29, R40). -/
def stateRead (v : Word) (s : State) : State :=
  if s.walker.aborting then s.onWalker Walker.stop
  else if isPosted v ∧ s.lc.holds s.walker.card.ref = false then
    s.onWalker fun w =>
      { w with state := .claim, card := cardOf w.card.ref v, nudgePending := false, deckWaiting := false }
  else park s

/-- The walker begins to give its card back (R34). -/
def Walker.retireAs (w : Walker) (oc : CardOutcome) (d : Detail) (clamped : Bool) : Walker :=
  { w with state := .retire, outcome := oc, detail := d, clamped := clamped, outcomeDone := false }

/-- A CONTEXT card is merged (R37); the mirror follows the context staged field (R5, R36). -/
def mergeStaged (s : State) : State :=
  let m := mergeContext s.audio.directory s.walker.staged (wordsBytes s.walker.body)
  let s' := s.onWalker fun w => { w with staged := m.1 }.retireAs .applied .noDetail m.2
  if s'.contextStaged = s.contextStaged then s' else touchMirror s'

/-- The copied card is checked (R33): rejected, merged, or ready in HOLD and reported (R35). -/
def checkCopied (s : State) : State :=
  match checkCard s.walker.card.kind (wordsBytes s.walker.body) with
  | .reject d => s.onWalker (·.retireAs .rejected d false)
  | .merge => mergeStaged s
  | .ready img => walkerReport (s.onWalker fun w => { w with state := .hold, image := img })

/-- With no body word left to read the card is checked (R32). -/
def copyMore (s : State) : State :=
  if s.walker.body.length < bodyWords s.walker.card.kind then s else checkCopied s

/-- The TAKEN write completes (R31); under an ABORT the card is handed over (R40). -/
def takenDone (s : State) : State :=
  let s := advanceTaken (s.onWalker fun w =>
    { w with state := .copy, cursor := w.card.ref.toNat + 4, slotHeld := true, body := [], image := .empty })
  if s.walker.aborting then s.onWalker Walker.handOver else copyMore s

/-- A body word returns (R32, R40). -/
def bodyRead (v : Word) (s : State) : State :=
  if s.walker.aborting then s.onWalker Walker.handOver
  else copyMore (s.onWalker fun w => { w with body := w.body ++ [v] })

/-- The RETIRED write of RETIRE completes (R34, R40). -/
def retireDone (s : State) : State :=
  let s := advanceRetired s
  let s := if s.walker.outcome = .rejected then setEvent .reject (advanceRejected s) else s
  s.onWalker fun w =>
    if w.aborting then w.stop
    else { w with state := .seekLink, slotHeld := false, image := .empty, body := [] }

/-- A nudge at the walker (R30). One that arrives in SEEK_LINK or SEEK_STATE after an ABORT, whose read is to be discarded,
has no effect: nudge-pending stays clear (DEDUCED, log 38). -/
def nudgeWalker (s : State) : State :=
  s.onWalker fun w =>
    match w.state with
    | .parked => { w with state := .seekLink }
    | .seekLink => if w.aborting then w else { w with nudgePending := true }
    | .seekState => if w.aborting then w else { w with nudgePending := true }
    | .off => w
    | .claim => w
    | .copy => w
    | .retire => w
    | .hold => w

/-- The walker leaves OFF at the start of a lesson (R27). -/
def walkerStart (s : State) : State :=
  s.onWalker fun w => { w with state := .seekLink, cursor := 0, nudgePending := false, deckWaiting := false }

end Sys2Proof.Machine
end

