-- ==== Sys2Proof/Machine/Bus.lean ====
section
/-! DEFINITION. The bus master port: what each requester wants next, the grant, completions, and bus errors (R14 to R17,
R45, R76, R118, R159, R181). -/
namespace Sys2Proof.Machine

/-! ### The next access of each requester -/

def nextWalker (s : State) : Option Access :=
  match s.walker.state with
  | .seekLink => some (.link s.walker.cursor)
  | .seekState => some (.cardState s.walker.card.ref.toNat)
  | .claim => some .takenWrite
  | .copy => if s.walker.handed then none else some (.body (s.walker.card.ref.toNat + 0x10 + 4 * s.walker.body.length))
  | .retire => some (if s.walker.outcomeDone then .walkerRetired else .walkerOutcome)
  | .off => none
  | .parked => none
  | .hold => none

/-- The chain first, then one pending write, the mirror before the copies (R45). -/
def nextLesson (s : State) : Option Access :=
  match s.lc.chain with
  | it :: _ => some (.lc it.access true)
  | [] =>
    if s.lc.pendMirror then some (.lc .mirror false)
    else s.lc.nextCopy.map fun c => .lc (.copy c) false

/-- The lowest-offset waiting record word, not while IDLE (R118). -/
def nextEngine (s : State) : Option Access :=
  if s.engine.state = .idle ∨ s.engine.words = [] then none
  else some (.record s.engine.card (leastOf s.engine.words 0))

def nextLine (s : State) : Option Access :=
  match s.line.phase with
  | .idle => none
  | .generationZero => some .lineGen
  | .cell w => some (.lineCell w)
  | .generation => some .lineGen

/-- The Key Scanner's copies in their order (R76). -/
def ksCopyOrder : List KsCounter := [.dropped, .blocked, .passDropped]

/-- The pass operation first, then one pending copy (R76). -/
def nextScanner (s : State) : Option Access :=
  match s.scanner.passOp with
  | some (_, .read) => some .passRead
  | some (_, .time) => some .passTime
  | some (_, .slot) => some .passSlot
  | none => (ksCopyOrder.find? (· ∈ s.scanner.pendCopies)).map .ksCopy

/-- The composer's copies in their order (R181). -/
def scCopyOrder : List ScCounter := [.bankFaults, .handoffLapsed, .echoDropped]

/-- The string or unit table word wanted (R171, R173). -/
def nextHeaderRead (s : State) : Option Access :=
  match s.speech.strRef with
  | some ref => some (.string (s.speech.stringOffset ref))
  | none =>
    match s.speech.unresolved with
    | u :: _ =>
      some (.unitWord (aligned (unitEntryOffset (s.audio.directory.getD u.bank {}) u.num) + 4 * s.speech.hdrWords.length))
    | [] => none

/-- The header requester's next access (R181). -/
def nextHeader (s : State) : Option Access :=
  match s.speech.recWrites with
  | r :: _ => some (.recWrite r)
  | [] =>
    if s.speech.doneWanted then some .doneRead
    else match nextHeaderRead s with
      | some a => some a
      | none =>
        if s.speech.pendMirror then some .composerMirror
        else (scCopyOrder.find? (· ∈ s.speech.pendCopies)).map .scCopy

def nextSample (s : State) : Option Access := s.speech.sampleOffset.map .sample

def nextAccess (s : State) : Requester → Option Access
  | .walker => nextWalker s
  | .lesson => nextLesson s
  | .engine => nextEngine s
  | .line => nextLine s
  | .scanner => nextScanner s
  | .header => nextHeader s
  | .sample => nextSample s

/-- What issuing an access takes from the composer's waiting accesses. -/
def takeIssued (a : Access) (s : State) : State :=
  match a with
  | .recWrite _ => s.onSpeech fun c => { c with recWrites := c.recWrites.tail }
  | .doneRead => s.onSpeech fun c => { c with doneWanted := false }
  | _ => s

/-- A free requester issues its next access (R15). -/
def issueFor (r : Requester) (s : State) : State :=
  if s.port.free r then
    match nextAccess s r with
    | some a => takeIssued a (s.onPort (·.issue r a))
    | none => s
  else s

/-- Every free requester issues; under the write block everything is answered as discarded (R16). -/
def issueAll (s : State) : State :=
  if s.port.writeBlock then discardAll s
  else issueFor .sample (issueFor .header (issueFor .scanner (issueFor .line (issueFor .engine
    (issueFor .lesson (issueFor .walker s))))))

/-- What follows every command on chip: the Lesson Controller goes on where its chain is empty, the timers follow their
conditions, and free requesters issue. -/
def settle (s : State) : State := issueAll (retime (lcAdvance s))

/-! ### The grant (R14) -/

/-- The mailbox offset of a counter copy (section 1.7). -/
def LcCounter.offset : LcCounter → Nat
  | .taken => 0x1A0 | .retired => 0x1A4 | .judged => 0x1A8 | .rejected => 0x1AC | .unqueued => 0x1C8 | .underruns => 0x1BC
def KsCounter.offset : KsCounter → Nat
  | .dropped => 0x1B0 | .blocked => 0x1B4 | .passDropped => 0x1B8
def ScCounter.offset : ScCounter → Nat
  | .bankFaults => 0x1C0 | .handoffLapsed => 0x1C4 | .echoDropped => 0x1CC

/-- A counter's value as its copy shows it; the upper half of a 16-bit counter's word is 0 (section 1.7). -/
def State.lcCounter (s : State) : LcCounter → Word
  | .taken => s.lc.taken | .retired => s.lc.retired | .judged => s.lc.judged | .rejected => s.lc.rejected
  | .unqueued => s.lc.unqueued.setWidth 32 | .underruns => s.audio.underruns.setWidth 32
def Scanner.counter (k : Scanner) : KsCounter → Word
  | .dropped => k.dropped.setWidth 32 | .blocked => k.blocked.setWidth 32 | .passDropped => k.passDropped.setWidth 32
def Speech.counter (c : Speech) : ScCounter → Word
  | .bankFaults => c.bankFaults.setWidth 32 | .handoffLapsed => c.handoffLapsed.setWidth 32
  | .echoDropped => c.echoDropped.setWidth 32

/-- The mastery word of an ending card (R136). -/
def masteryWord (img : Image) : Word :=
  match img with
  | .word w => packBytes w.mastery w.reviews w.presentations 0
  | _ => 0

/-- Offset and written word of a Lesson Controller access at its grant (R45). -/
def lcBus (s : State) : LcAccess → Nat × Option Word
  | .setup k => (4 * k, none)
  | .mirror => (0x194, some (lessonMirrorWord s.lc.lesson s.contextStaged s.hush s.lc.queue.length))
  | .mirrorStopped => (0x194, some (lessonMirrorWord .stopped s.contextStaged s.hush s.lc.queue.length))
  | .currentRef ref => (0x19C, some ref)
  | .copy c => (c.offset, some (s.lcCounter c))
  | .faultWord k v => (0x1D0 + 4 * k, some v)
  | .header card st => (card.ref.toNat, some (headerWord card st))
  | .outcome ref oc => (ref.toNat + 8, some (outcomeWord oc .noDetail false))
  | .endRecord k =>
    match s.lc.ending with
    | some e => (e.card.ref.toNat + recordOffset k, some (match e.final with | some f => f.words.getD k 0 | none => 0))
    | none => (0, some 0)
  | .mastery =>
    match s.lc.ending with
    | some e => (e.card.ref.toNat + 0x30, some (masteryWord e.image))
    | none => (0, some 0)

/-- The event a pass operation carries. -/
def Scanner.passEvent (k : Scanner) : KeyEvent :=
  match k.passOp with | some (e, _) => e | none => { pos := 0, meaning := 0, time := 0 }

/-- Offset and written word of an access at its grant: writes carry their words' values at the grant (R6, R45, R118). -/
def accessBus (s : State) (q : Request) : Nat × Option Word :=
  let ref := s.walker.card.ref.toNat
  let card := (s.line.card.getD 0).toNat
  match q.access with
  | .link off => (off, none)
  | .cardState off => (off, none)
  | .takenWrite => (ref, some (headerWord s.walker.card .taken))
  | .body off => (off, none)
  | .walkerOutcome => (ref + 8, some (outcomeWord s.walker.outcome s.walker.detail s.walker.clamped))
  | .walkerRetired => (ref, some (headerWord s.walker.card .retired))
  | .lc a _ => lcBus s a
  | .record c k => (c.toNat + recordOffset k, some (q.frozen.getD (recordWord s.engine k)))
  | .lineGen => (card + 0xBC, some s.line.gen)
  | .lineCell w => (card + 0xC0 + 4 * w, some (cellWord (s.line.cells.getD (2 * w) {}) (s.line.cells.getD (2 * w + 1) {})))
  | .passRead => (0x18C, none)
  | .passTime => (0x190, some s.scanner.passEvent.time)
  | .passSlot => (0x18C, some (packBytes s.scanner.passEvent.pos 1 0 0))
  | .ksCopy c => (c.offset, some (s.scanner.counter c))
  | .string off => (off, none)
  | .unitWord off => (off, none)
  | .doneRead => (0x188, none)
  | .recWrite (.cardRef r) => (0x1E0, some r)
  | .recWrite (.state seq st part) => (0x1DC, some (recordStateWord seq st part))
  | .composerMirror => (0x198, some (composerMirrorWord s.speech.state s.speech.phrase s.speech.last))
  | .scCopy c => (c.offset, some (s.speech.counter c))
  | .sample off => (off, none)

/-- What a grant takes from the writes that wait (R6, R45, R118, R181). -/
def grantEffect (a : Access) (s : State) : State :=
  match a with
  | .lc .mirror _ => s.onLc fun l => { l with pendMirror := false }
  | .lc .mirrorStopped _ => s.onLc fun l => { l with pendMirror := false }
  | .lc (.copy c) _ => s.onLc fun l => { l with pendCopies := without c l.pendCopies }
  | .record _ k => s.onEngine fun e => { e with words := without k e.words }
  | .ksCopy c => s.onScanner fun k => { k with pendCopies := without c k.pendCopies }
  | .composerMirror => s.onSpeech fun c => { c with pendMirror := false }
  | .scCopy k => s.onSpeech fun c => { c with pendCopies := without k c.pendCopies }
  | _ => s

/-- The rotation of R14, from a requester on. -/
def rotationFrom : Requester → List Requester
  | .walker => [.walker, .lesson, .engine, .line, .scanner, .header]
  | .lesson => [.lesson, .engine, .line, .scanner, .header, .walker]
  | .engine => [.engine, .line, .scanner, .header, .walker, .lesson]
  | .line => [.line, .scanner, .header, .walker, .lesson, .engine]
  | .scanner => [.scanner, .header, .walker, .lesson, .engine, .line]
  | .header => [.header, .walker, .lesson, .engine, .line, .scanner]
  | .sample => [.walker, .lesson, .engine, .line, .scanner, .header]

/-- The requester the rotation starts from after a grant (R14): a sample grant does not move it. -/
def rotationAfter (r rotation : Requester) : Requester :=
  match r with
  | .walker => .lesson
  | .lesson => .engine
  | .engine => .line
  | .line => .scanner
  | .scanner => .header
  | .header => .walker
  | .sample => rotation

/-- The requester the arbiter grants (R14). -/
def Port.choice (p : Port) : Option Requester :=
  if p.waiting.sample.isSome then some .sample
  else (rotationFrom p.rotation).find? fun r => (p.waiting.get r).isSome

/-- A grant to a requester (R1, R14). -/
def grantTo (r : Requester) (q : Request) (s : State) : State :=
  let bus := accessBus s q
  grantEffect q.access (s.onPort fun p =>
    { p with
      waiting := p.waiting.put r none
      rotation := rotationAfter r p.rotation
      busy := some
        { requester := r, access := q.access, discard := q.discard, orphan := false
          address := p.window + BitVec.ofNat 32 bus.1, write := bus.2 } })

/-- The arbiter at a free port with accesses waiting (R14). -/
def grant (s : State) : State :=
  match s.port.busy, s.port.choice with
  | none, some r =>
    match s.port.waiting.get r with
    | some q => grantTo r q s
    | none => s
  | _, _ => s

/-! ### Completions -/

/-- A completion event: with no such access in progress it is no event of the part (DESIGN CHOICE, log 2); an orphan's data and completion
are discarded (R17); otherwise the block reacts. -/
def complete (r : Requester) (test : Access → Bool) (f : BusAccess → State → State) (s : State) : State :=
  match s.port.completing r test with
  | none => s
  | some b =>
    let s := s.onPort Port.release
    settle (if b.orphan then s else f b s)

/-- The Lesson Controller's chain moves on when a chain access completes (R45). -/
def popChain (s : State) : State := s.onLc fun l => { l with chain := l.chain.tail }

/-- A completed Lesson Controller write (R45). -/
def lcWritten (chain : Bool) (s : State) : State :=
  if chain then
    match s.lc.chain with
    | it :: _ => lcAfter it.after (popChain s)
    | [] => s
  else s

/-- The hand-over at the ACTIVE write's completion (R54): none while closing or FAULTED. -/
def handOver (s : State) : State :=
  if s.lc.isClosing ∨ s.lc.lesson = .faulted then s
  else match s.lc.current with
    | some cur =>
      match cur.image with
      | .word img => handOverWord cur.card.ref img cur.review s
      | .say ref => handOverSay cur.card.ref ref s
      | .empty => s
      | .endCard => s
    | none => s

/-! ### Setup (R48, R49) -/

/-- The Lesson Controller's starting writes, in their order (R48). -/
def startingItems : List LcItem :=
  [{ access := .mirror }, { access := .currentRef 0 }] ++ (lcCopyOrder.map fun c => { access := .copy c })
    ++ [{ access := .faultWord 0 0 }, { access := .faultWord 1 0 }, { access := .faultWord 2 0, after := .started }]

/-- The starting writes of the Key Scanner and the Speech Composer (R76, R189). A starting copy write carries its counter as
it stands at the grant, like every other copy write (R6), so a counter that a key advances during STARTING is written with
its advanced value where R5 and R76 speak of a 0 (DESIGN CHOICE, log 41). -/
def startingWrites (s : State) : State :=
  let s := s.onScanner fun k => { k with pendCopies := ksCopyOrder, starting := ksCopyOrder }
  let s := s.onSpeech fun c =>
    { c with
      recWrites := c.recWrites ++ [.cardRef 0, RecWrite.state 0 .idle .word], pendMirror := true, pendCopies := scCopyOrder
      starting := [.recRef, .recState, .mirror] ++ scCopyOrder.map .copy }
  s.onLc (·.append startingItems)

/-- Setup word k is handed to the blocks that use it (R3, R48, R67, R70, R191, R199). -/
def setupWord (k : Nat) (v : Word) (s : State) : State :=
  let s := s.onLc fun l => { l with setup := l.setup ++ [v] }
  if k = 0 then s.onLc fun l => { l with deckHead := v }
  else if k = 1 then
    ((s.onScanner fun c => { c with deb := setupDeb v }).onAudio fun a => { a with hushFilt := setupHushFilt v }).onPort
      fun p => { p with coalesceSetting := setupCoalesce v, coalesce := setupCoalesce v, ended := 0 }
  else if k = 17 then s.onScanner fun c => { c with keyMap := setupKeyMap s.lc.setup }
  else if k + 1 = Config.setupWords then startingWrites (s.onAudio fun a => { a with directory := setupDirectory s.lc.setup })
  else s

/-- A setup word returns (R48); while closing it is discarded (R50). -/
def setupReturned (b : BusAccess) (v : Word) (s : State) : State :=
  match b.access with
  | .lc (.setup k) _ => if s.lc.isClosing then popChain s else setupWord k v (popChain s)
  | _ => popChain s

/-- Every block has reported its starting writes complete (R49). -/
def State.startComplete (s : State) : Bool :=
  s.lc.lesson = .starting && !s.lc.isClosing && s.lc.started && s.lc.chain = [] && s.scanner.starting = []
    && s.speech.starting = []

/-- The setup check (R49). -/
def setupChecked (s : State) : State :=
  if !(s.audio.directory.getD 0 {}).present then enterFaulted .noBank 0 0 s
  else if s.lc.deckHead ≠ 0 ∧ validCardRef s.lc.deckHead = false then enterFaulted .badSetup 0 s.lc.deckHead s
  else choose false (walkerStart (touchMirror (setEvent .starved (s.onLc fun l => { l with lesson := .waiting }))))

/-! ### Bus errors (R16, R17, R62) -/

/-- A requester goes on as after a failed access while the lesson is STOPPED (R16). -/
def accessFailed (a : Access) (s : State) : State :=
  match a with
  | .lc _ true => popChain s
  | .passRead => s.onScanner Scanner.passLost
  | .passTime => s.onScanner Scanner.passLost
  | .passSlot => s.onScanner Scanner.passLost
  | _ => s

/-- An access in progress ends in a bus error (R16, R17, R62). -/
def busFailed (b : BusAccess) (s : State) : State :=
  if b.orphan then s
  else if s.lc.lesson = .stopped then accessFailed b.access s
  else if s.lc.lesson = .faulted then setEvent .fault (s.onPort fun p => { p with writeBlock := true })
  else busFault s

end Sys2Proof.Machine
end

