-- ==== Sys2Proof/WellFormed.lean ====
section
/-! DEFINITION. Which command terms spell a row of the table. -/
namespace Sys2Proof

/-- The codes 1..7 of COMMAND are RUN to RESET (section 1.7); any other value is UNKNOWN_COMMAND (R8). -/
def Instr.unknownCode (code : Word) : Bool := !(1 ≤ code.toNat && code.toNat ≤ 7)

/-- The offsets whose writes are not ignored: WINDOW, COMMAND, NUDGE, EVENTS, EVENT_ENABLE (R7, section 1.7). -/
def Instr.writableOffset (offset : Word) : Bool :=
  offset == 0x00 || offset == 0x04 || offset == 0x08 || offset == 0x10 || offset == 0x14

/-- A term is well-formed when its operands are ones the row admits; every operand of the other rows is. -/
def Instr.wf : Instr → Bool
  | .unknownCommand code => Instr.unknownCode code
  | .ignoredRegisterWrite offset _ => !Instr.writableOffset offset
  | _ => true

end Sys2Proof
end

