-- ==== Sys2Proof/Machine/Registers.lean ====
section
/-! DEFINITION. Meanings of the register writes other than the listed commands (R1, R7, R8, R9, R11, R12). -/
namespace Sys2Proof.Machine

/-- The lesson states in which WINDOW, RUN and the immediate ABORT are taken (R1, R46, R60). -/
def LessonState.over : LessonState → Bool
  | .stopped => true | .ended => true | .faulted => true
  | .starting => false | .waiting => false | .presenting => false | .paused => false

/-- The base a WINDOW write gives: the low 16 bits discarded (R1). -/
def windowBase (v : Word) : Word := v &&& 0xFFFF0000

/-- WINDOW_WRITE (R1): taken while the lesson is STOPPED, ENDED or FAULTED, lifting the write block (R16). -/
def execWindowWrite (value : Word) (s : State) : Host.Outcome State Fault Refusal :=
  if s.lc.lesson.over then
    .next (showResult false (s.onPort fun p => { p with window := windowBase value, writeBlock := false }))
  else .next (showResult true s)

/-- UNKNOWN_COMMAND (R8): refused by the part, with no effect but the result in STATUS. A listed code is another row. -/
def execUnknownCommand (code : Word) (s : State) : Host.Outcome State Fault Refusal :=
  if Instr.unknownCode code then .next (showResult true s) else .refused .listedCommandCode

/-- NUDGE (R9): delivered to the walker and to the composer, whatever its value. -/
def execNudge (_value : Word) (s : State) : Host.Outcome State Fault Refusal :=
  .next (settle (nudgeComposer (nudgeWalker s)))

/-- EVENTS_WRITE (R11): each bit written as 1 clears its flag. -/
def execEventsWrite (value : Word) (s : State) : Host.Outcome State Fault Refusal :=
  .next (s.onPort fun p => { p with events := p.events &&& ~~~(byteOf value 0) })

/-- EVENT_ENABLE_WRITE (R12): one enable for each flag; bits 31 to 8 read 0. -/
def execEventEnableWrite (value : Word) (s : State) : Host.Outcome State Fault Refusal :=
  .next (s.onPort fun p => { p with enable := byteOf value 0 })

/-- IGNORED_REGISTER_WRITE (R7): a write to STATUS or to another offset of the slave range has no effect. The offset of a
register that takes writes is another row. -/
def execIgnoredRegisterWrite (offset _value : Word) (s : State) : Host.Outcome State Fault Refusal :=
  if Instr.writableOffset offset then .refused .takenRegisterOffset else .next s

end Sys2Proof.Machine
end

