-- ==== Sys2Proof/Machine/Commands.lean ====
section
/-! DEFINITION. Meanings of power-on reset and of the commands of COMMAND (R46 to R48, R50, R57 to R60, R64, R200). -/
namespace Sys2Proof.Machine

/-! ### Resets (R17, R18, R64) -/

/-- POWER_ON_RESET (R64): every block as its reset table says; the commands still to come are the outside's. -/
def execPowerOnReset (s : State) : Host.Outcome State Fault Refusal := .next { State.reset with pending := s.pending }

/-- The Window Port at soft reset (R17, R18): WINDOW and EVENT_ENABLE kept, and an access in progress cut loose. -/
def Port.softReset (p : Port) : Port :=
  { window := p.window, enable := p.enable, busy := p.busy.map fun b => { b with orphan := true } }

/-- RESET (R64): every block as its reset table says; the codec link runs on (R202). -/
def execReset (s : State) : Host.Outcome State Fault Refusal :=
  .next { pending := s.pending, port := s.port.softReset, audio := { codec := s.audio.codec } }

/-! ### RUN (R46, R47, R48) -/

/-- A write that RUN cancels while it waits: pending writes of the Lesson Controller, the scanner and the composer
(R48, R76, R189). -/
def Access.cancelledByRun : Access → Bool
  | .lc _ false => true
  | .ksCopy _ => true
  | .recWrite _ => true
  | .composerMirror => true
  | .scCopy _ => true
  | _ => false

/-- The waiting access of a requester after RUN. -/
def keptByRun (q : Option Request) : Option Request := q.filter fun q => !q.access.cancelledByRun

/-- The Window Port at RUN (R7, R16, R18, R47). -/
def Port.atRun (p : Port) : Port :=
  { p with
    refused := false, fault := .noFault, writeBlock := false
    waiting := { p.waiting with
      lesson := keptByRun p.waiting.lesson, scanner := keptByRun p.waiting.scanner, header := keptByRun p.waiting.header } }

/-- The setup reads (R48). -/
def setupItems : List LcItem := (List.range Config.setupWords).map fun k => { access := .setup k }

/-- The Lesson Controller at RUN (R47, R48): the entry writes still under way first, then the setup reads. -/
def Lc.atRun (l : Lc) : Lc := { lesson := .starting, chain := l.chain ++ setupItems }

/-- The Audio Output at RUN (R202). -/
def Audio.atRun (a : Audio) : Audio :=
  { a with volume := Context.defaults.volume, underrun := false, underruns := 0 }

/-- Every block at RUN's acceptance (R47). Reads of the composer still in flight are discarded when they return. -/
def runAccepted (s : State) : State :=
  let s := discardReads (freezeRecord s)
  { pending := s.pending, port := s.port.atRun, walker := {}, lc := s.lc.atRun, scanner := s.scanner.atRun, clock := {}
    engine := {}, unit := {}, line := {}, speech := {}, audio := s.audio.atRun }

/-- RUN (R46, R47). -/
def execRun (s : State) : Host.Outcome State Fault Refusal :=
  if s.lc.lesson.over then .next (settle (runAccepted s)) else .next (showResult true s)

/-! ### PAUSE and RESUME (R57, R58) -/

/-- PAUSE's effect (R57): the pause remembered, speech flushed, the engine suspended. -/
def pauseAccepted (s : State) : State :=
  touchMirror (suspend (flushSpeech (s.onLc fun l =>
    { l with lesson := .paused, paused := some (l.lesson, s.presentationInProgress) })))

/-- PAUSE (R46, R57). -/
def execPause (s : State) : Host.Outcome State Fault Refusal :=
  if (s.lc.lesson = .waiting ∨ s.lc.lesson = .presenting) ∧ s.lc.isClosing = false then
    .next (settle (showResult false (pauseAccepted s)))
  else .next (showResult true s)

/-- RESUME's effect (R58): the suspended presentation goes on; an end under way completes first (DEDUCED, log 18); otherwise the
choice is applied. -/
def resumeAccepted (s : State) : State :=
  let back := fun (st : LessonState) => touchMirror (s.onLc fun l => { l with lesson := st, paused := none })
  match s.lc.paused with
  | some (_, true) => resumeEngine (back .presenting)
  | some (st, false) => if s.endUnderWay then back .presenting else choose true (back st)
  | none => choose true (back .waiting)

/-- RESUME (R46, R58). -/
def execResume (s : State) : Host.Outcome State Fault Refusal :=
  if s.lc.lesson = .paused ∧ s.lc.isClosing = false then .next (settle (showResult false (resumeAccepted s)))
  else .next (showResult true s)

/-! ### ABORT (R46, R50, R59, R60) -/

/-- A setup read. -/
def LcItem.isSetup (it : LcItem) : Bool := match it.access with | .setup _ => true | _ => false

/-- What is left of the chain at an ABORT in STARTING (R50): the access already issued, and before the setup is read the
entry writes that RUN let complete first (R48). -/
def Lc.startAborted (l : Lc) (issued : Bool) : List LcItem :=
  let kept := if issued then l.chain.take 1 else []
  if Config.setupWords ≤ l.setup.length then kept else kept ++ (l.chain.drop kept.length).filter (!·.isSetup)

/-- Whether the Lesson Controller has an access of its chain waiting or in progress. -/
def Port.chainIssued (p : Port) : Bool :=
  match p.outstanding .lesson with
  | some (.lc _ chain) => chain
  | _ => false

/-- The scanner's starting writes after an ABORT in STARTING (R50): the one already issued, and copies of counters that
have advanced. -/
def Scanner.startAborted (k : Scanner) (issued : Option Access) : Scanner :=
  { k with
    starting := k.starting.filter fun c => issued = some (.ksCopy c)
    pendCopies := k.pendCopies.filter fun c => k.counter c ≠ 0 || issued = some (.ksCopy c) }

/-- The starting write that an access is. -/
def ScStart.isAccess (i : ScStart) (a : Access) : Bool :=
  match i, a with
  | .recRef, .recWrite (.cardRef _) => true
  | .recState, .recWrite (.state _ _ _) => true
  | .mirror, .composerMirror => true
  | .copy c, .scCopy d => c = d
  | _, _ => false

/-- The composer's starting writes after an ABORT in STARTING (R50). -/
def Speech.startAborted (c : Speech) (issued : Option Access) : Speech :=
  { c with
    starting := c.starting.filter fun i => match issued with | some a => i.isAccess a | none => false
    recWrites := [], pendMirror := false, pendCopies := [] }

/-- ABORT in STARTING (R50). -/
def abortStart (s : State) : State :=
  let s := s.onScanner fun k => k.flushAll.startAborted (s.port.outstanding .scanner)
  let s := s.onSpeech fun c => c.startAborted (s.port.outstanding .header)
  s.onLc fun l => { l with closing := .start, chain := l.startAborted s.port.chainIssued, pendMirror := false, pendCopies := [] }

/-- ABORT in ENDED or FAULTED (R60): STOPPED at once, the mirror written after the entry's writes unless the write block
holds. -/
def abortOver (s : State) : State :=
  let s' := s.onLc fun l => { l with lesson := .stopped }
  if s.port.writeBlock then s' else touchMirror s'

/-- ABORT by the lesson state (R46, R50, R59, R60); `none` where it is refused. -/
def abortAccepted (s : State) : Option State :=
  if s.lc.isClosing then none
  else match s.lc.lesson with
    | .stopped => none
    | .starting => some (abortStart s)
    | .waiting => some (walkerAbort (stopLesson .abort s))
    | .presenting => some (walkerAbort (stopLesson .abort s))
    | .paused => some (walkerAbort (stopLesson .abort s))
    | .ended => some (abortOver s)
    | .faulted => some (abortOver s)

/-- ABORT (R46, R59). -/
def execAbort (s : State) : Host.Outcome State Fault Refusal :=
  match abortAccepted s with
  | some t => .next (settle (showResult false t))
  | none => .next (showResult true s)

/-! ### HUSH_SET and HUSH_CLEAR (R46, R200) -/

/-- HUSH_SET (R200). -/
def execHushSet (s : State) : Host.Outcome State Fault Refusal := .next (settle (setSoftHush true (showResult false s)))

/-- HUSH_CLEAR (R200). -/
def execHushClear (s : State) : Host.Outcome State Fault Refusal := .next (settle (setSoftHush false (showResult false s)))

end Sys2Proof.Machine
end

