-- ==== Sys2Proof/Machine/Ticks.lean ====
section
/-! DEFINITION. Meanings of the part's own ticks: the millisecond step, timer expiries, sample slots and the end-mark
report (R79, R104, R108, R168, R185, R187, R195). -/
namespace Sys2Proof.Machine

/-- MILLISECOND_STEP (R65, R79, R80, R83, R199): the scan pass with the step time, the clock and its timers, the HUSH line
(their order is DESIGN CHOICE, log 5). -/
def execMillisecondStep (keys : BitVec 64) (hushLine : Bool) (s : State) : Host.Outcome State Fault Refusal :=
  .next (settle (sampleHush hushLine (tickClock (scanPass s.clock.time keys s))))

/-- An owner takes a delivered expiry of a timer (R83); `f` is what it does. Where none is delivered there is no event
(DESIGN CHOICE, log 2). -/
def onExpiry (n : TimerName) (f : Bool → State → State) (s : State) : State :=
  let t := s.clock.get n
  if t.expired then settle (f t.stale (takeExpiry n s)) else s

/-- REPROMPT_EXPIRY (R108): a stale one, followed by an arming, is disregarded. -/
def execRepromptExpiry (s : State) : Host.Outcome State Fault Refusal :=
  .next (onExpiry .reprompt (fun stale s => if stale then s else repromptExpired s) s)

/-- SETTLE_EXPIRY (R104). -/
def execSettleExpiry (s : State) : Host.Outcome State Fault Refusal :=
  .next (onExpiry .settle (fun stale s => if stale then s else settleExpired s) s)

/-- HANDOFF_WAIT_EXPIRY (R185): the hand-off lapses while the record is REQUESTED, whatever has been armed since (DEDUCED, log 31). -/
def execHandoffWaitExpiry (s : State) : Host.Outcome State Fault Refusal :=
  .next (onExpiry .handoffWait (fun _ s => if s.speech.record.state = .requested then handoffLapse s else s) s)

/-- RESTART_EXPIRY (R187). -/
def execRestartExpiry (s : State) : Host.Outcome State Fault Refusal :=
  .next (onExpiry .restart (fun _ s => restartExpired s) s)

/-- SAMPLE_SLOT (R195). -/
def execSampleSlot (s : State) : Host.Outcome State Fault Refusal := .next (settle (slot s))

/-- END_MARK_REPORT (R168): the composer takes the report the Audio Output has made. -/
def execEndMarkReport (s : State) : Host.Outcome State Fault Refusal :=
  if s.audio.markReport then .next (settle (markReached (s.onAudio fun a => { a with markReport := false }))) else .next s

end Sys2Proof.Machine
end

