-- ==== Sys2Proof/Machine/Returns.lean ====
section
/-! DEFINITION. Meanings of the bus events: grants, errors, read returns and write completions. -/
namespace Sys2Proof.Machine

/-! ### Grants and errors (R14, R16) -/

/-- BUS_GRANT (R14): the arbiter grants when the port is free and an access waits. -/
def execBusGrant (s : State) : Host.Outcome State Fault Refusal := .next (settle (grant s))

/-- BUS_ERROR (R16): the access in progress ends in an error. -/
def execBusError (s : State) : Host.Outcome State Fault Refusal :=
  .next (match s.port.busy with
    | some b => settle (busFailed b (s.onPort Port.release))
    | none => s)

/-! ### Which access each completion completes -/

def Access.isSetup : Access → Bool | .lc (.setup _) _ => true | _ => false
def Access.isLink : Access → Bool | .link _ => true | _ => false
def Access.isCardState : Access → Bool | .cardState _ => true | _ => false
def Access.isTaken : Access → Bool | .takenWrite => true | _ => false
def Access.isBody : Access → Bool | .body _ => true | _ => false
def Access.isRetire : Access → Bool | .walkerOutcome => true | .walkerRetired => true | _ => false
def Access.isActive : Access → Bool | .lc (.header _ .active) _ => true | _ => false
def Access.isLine : Access → Bool | .lineGen => true | .lineCell _ => true | _ => false
/-- The other writes of the Lesson Controller. -/
def Access.isLcWrite : Access → Bool
  | .lc (.setup _) _ => false
  | .lc (.header _ .active) _ => false
  | .lc _ _ => true
  | _ => false
def Access.isPassRead : Access → Bool | .passRead => true | _ => false
def Access.isPassSlot : Access → Bool | .passSlot => true | _ => false
/-- The other writes of the Key Scanner. -/
def Access.isScannerWrite : Access → Bool | .passTime => true | .ksCopy _ => true | _ => false
def Access.isString : Access → Bool | .string _ => true | _ => false
def Access.isUnitWord : Access → Bool | .unitWord _ => true | _ => false
def Access.isSample : Access → Bool | .sample _ => true | _ => false
def Access.isRecWrite : Access → Bool | .recWrite _ => true | _ => false
def Access.isDoneRead : Access → Bool | .doneRead => true | _ => false
/-- The other writes of the Speech Composer. -/
def Access.isComposerWrite : Access → Bool | .composerMirror => true | .scCopy _ => true | _ => false
def Access.isRecord : Access → Bool | .record _ _ => true | _ => false

/-! ### The Lesson Controller's accesses -/

/-- SETUP_READ_RETURN (R48). -/
def execSetupReadReturn (word : Word) (s : State) : Host.Outcome State Fault Refusal :=
  .next (complete .lesson Access.isSetup (fun b s => setupReturned b word s) s)

/-- ACTIVE_WRITE_COMPLETE (R54): the chain goes on and the card is handed over. -/
def execActiveWriteComplete (s : State) : Host.Outcome State Fault Refusal :=
  .next (complete .lesson Access.isActive (fun _ s => handOver (popChain s)) s)

/-- Whether an access belongs to a chain (R45). -/
def Access.inChain : Access → Bool | .lc _ chain => chain | _ => false

/-- LC_WRITE_COMPLETE (R45). -/
def execLcWriteComplete (s : State) : Host.Outcome State Fault Refusal :=
  .next (complete .lesson Access.isLcWrite (fun b s => lcWritten b.access.inChain s) s)

/-! ### The Deck Walker's accesses -/

/-- LINK_READ_RETURN (R28). -/
def execLinkReadReturn (word : Word) (s : State) : Host.Outcome State Fault Refusal :=
  .next (complete .walker Access.isLink (fun _ s => linkRead word s) s)

/-- STATE_READ_RETURN (R29). -/
def execStateReadReturn (word : Word) (s : State) : Host.Outcome State Fault Refusal :=
  .next (complete .walker Access.isCardState (fun _ s => stateRead word s) s)

/-- TAKEN_WRITE_COMPLETE (R31). -/
def execTakenWriteComplete (s : State) : Host.Outcome State Fault Refusal :=
  .next (complete .walker Access.isTaken (fun _ s => takenDone s) s)

/-- BODY_READ_RETURN (R32). -/
def execBodyReadReturn (word : Word) (s : State) : Host.Outcome State Fault Refusal :=
  .next (complete .walker Access.isBody (fun _ s => bodyRead word s) s)

/-- A write of RETIRE completes (R34): the outcome word, then the RETIRED state. -/
def retireWritten (a : Access) (s : State) : State :=
  match a with
  | .walkerOutcome => s.onWalker fun w => { w with outcomeDone := true }
  | _ => retireDone s

/-- RETIRE_WRITE_COMPLETE (R34). -/
def execRetireWriteComplete (s : State) : Host.Outcome State Fault Refusal :=
  .next (complete .walker Access.isRetire (fun b s => retireWritten b.access s) s)

/-! ### The Attempt Engine's and the Line Builder's writes -/

/-- RECORD_WRITE_COMPLETE (R118): the engine's requester is free for the next waiting word. -/
def execRecordWriteComplete (s : State) : Host.Outcome State Fault Refusal :=
  .next (complete .engine Access.isRecord (fun _ s => s) s)

/-- LINE_WRITE_COMPLETE (R159). -/
def execLineWriteComplete (s : State) : Host.Outcome State Fault Refusal :=
  .next (complete .line Access.isLine (fun _ s => lineAdvance s) s)

/-! ### The Key Scanner's accesses -/

/-- PASS_READ_RETURN (R74 step 1): a nonzero valid byte loses the key. -/
def execPassReadReturn (word : Word) (s : State) : Host.Outcome State Fault Refusal :=
  .next (complete .scanner Access.isPassRead (fun _ s =>
    if byteOf word 1 ≠ 0 then s.onScanner Scanner.passLost else s.onScanner (·.passStep .time)) s)

/-- PASS_WRITE_COMPLETE (R74 step 4). -/
def execPassWriteComplete (s : State) : Host.Outcome State Fault Refusal :=
  .next (complete .scanner Access.isPassSlot (fun _ s => setEvent .passkey (s.onScanner Scanner.passDone)) s)

/-- A write of the Key Scanner other than the pass slot completes (R74, R76). -/
def scannerWritten (a : Access) (s : State) : State :=
  match a with
  | .passTime => s.onScanner (·.passStep .slot)
  | .ksCopy c => s.onScanner fun k => { k with starting := without c k.starting }
  | _ => s

/-- SCANNER_WRITE_COMPLETE (R76). -/
def execScannerWriteComplete (s : State) : Host.Outcome State Fault Refusal :=
  .next (complete .scanner Access.isScannerWrite (fun b s => scannerWritten b.access s) s)

/-! ### The Speech Composer's accesses -/

/-- STRING_READ_RETURN (R171): discarded where the utterance has been cut (R169). -/
def execStringReadReturn (word : Word) (s : State) : Host.Outcome State Fault Refusal :=
  .next (complete .header Access.isString (fun b s =>
    match b.discard, s.speech.strRef with
    | false, some ref => stringWord ref word s
    | _, _ => s) s)

/-- UNIT_HEADER_READ_RETURN (R173). -/
def execUnitHeaderReadReturn (word : Word) (s : State) : Host.Outcome State Fault Refusal :=
  .next (complete .header Access.isUnitWord (fun b s =>
    match b.discard, s.speech.unresolved with
    | false, u :: _ => headerWordRead u word s
    | _, _ => s) s)

/-- SAMPLE_READ_RETURN (R179). -/
def execSampleReadReturn (word : Word) (s : State) : Host.Outcome State Fault Refusal :=
  .next (complete .sample Access.isSample (fun b s => if b.discard then s else sampleWord word s) s)

/-- A hand-off record write completes (R183, R185); a starting write among them is then complete (R189). -/
def recordWritten (a : Access) (s : State) : State :=
  match a with
  | .recWrite r =>
    recWritten r (s.onSpeech fun c =>
      { c with starting := without (match r with | .cardRef _ => ScStart.recRef | .state _ _ _ => ScStart.recState) c.starting })
  | _ => s

/-- HANDOFF_RECORD_WRITE_COMPLETE (R183). -/
def execHandoffRecordWriteComplete (s : State) : Host.Outcome State Fault Refusal :=
  .next (complete .header Access.isRecWrite (fun b s => recordWritten b.access s) s)

/-- HANDOFF_DONE_READ_RETURN (R184): disregarded where its request is over (R169, R186). -/
def execHandoffDoneReadReturn (word : Word) (s : State) : Host.Outcome State Fault Refusal :=
  .next (complete .header Access.isDoneRead (fun b s =>
    if b.discard then doneDisregarded s else doneWord word s) s)

/-- A write of the composer's mirror or of a counter copy completes (R181, R189). -/
def composerWritten (a : Access) (s : State) : State :=
  match a with
  | .composerMirror => s.onSpeech fun c => { c with starting := without .mirror c.starting }
  | .scCopy k => s.onSpeech fun c => { c with starting := without (.copy k) c.starting }
  | _ => s

/-- COMPOSER_WRITE_COMPLETE (R181). -/
def execComposerWriteComplete (s : State) : Host.Outcome State Fault Refusal :=
  .next (complete .header Access.isComposerWrite (fun b s => composerWritten b.access s) s)

end Sys2Proof.Machine
end

