-- ==== Sys2Proof/Machine/Points.lean ====
section
/-! DEFINITION. Meanings of the points at which one block takes another's report: the setup check, a key at the FIFO head,
the alignment result, the presentation end, the Line Builder's close, and the composer's buffer writes. A point whose
conditions do not hold is no event of the part (DESIGN CHOICE, log 2). -/
namespace Sys2Proof.Machine

/-- SETUP_CHECK (R49): when every block has reported its starting writes complete. -/
def execSetupCheck (s : State) : Host.Outcome State Fault Refusal :=
  .next (if s.startComplete then settle (setupChecked s) else s)

/-- KEY_TAKE (R88): the engine looks at the head of the key FIFO. -/
def execKeyTake (s : State) : Host.Outcome State Fault Refusal :=
  .next (match s.scanner.fifo with
    | e :: _ => settle (headKey e.meaning s)
    | [] => s)

/-- ALIGNMENT_COMPLETION (R122): the job's result goes to the engine and the unit is IDLE. -/
def execAlignmentCompletion (s : State) : Host.Outcome State Fault Refusal :=
  .next (
    if s.unit.busy then
      let r := s.unit.result
      settle (judgingDone r.1 r.2 (s.onUnit fun _ => {}))
    else s)

/-- What the part does when no command comes: an alignment job goes on by one piece (R121; DESIGN CHOICE, log 1 and log 12);
nothing else changes. -/
def idle (s : State) : State := s.onUnit AlignUnit.advance

/-- The engine's report of a WORD presentation's end is due (R114): the final feedback has completed and every record word
has been written. -/
def State.endReportDue (s : State) : Bool := s.engine.ending && s.engine.words = [] && s.port.free .engine

/-- PRESENTATION_END (R114): the final try is handed over, the engine returns to IDLE and the Line Builder closes after what
is due (R161). -/
def execPresentationEnd (s : State) : Host.Outcome State Fault Refusal :=
  .next (
    if s.endReportDue then
      settle (endLine (presentationEnded (some s.engine.finalTry) (s.onEngine fun e => { e with state := .idle, ending := false })))
    else s)

/-- The Line Builder has no more to write and has been told to close (R161). -/
def Line.closeDue (l : Line) : Bool := l.closing && l.phase = .idle && !l.due

/-- LINE_CLOSE (R161). -/
def execLineClose (s : State) : Host.Outcome State Fault Refusal :=
  .next (if s.line.closeDue then settle (closeLine s) else s)

/-- BUFFER_WRITE (R178): one sample into the output buffer (DESIGN CHOICE, log 16). -/
def execBufferWrite (s : State) : Host.Outcome State Fault Refusal := .next (settle (writeBuffer s))

end Sys2Proof.Machine
end

