-- ==== Sys2Proof/Machine/Dispatch.lean ====
section
/-! DEFINITION. One arm per command: a direct call of its meaning. -/
namespace Sys2Proof.Machine

/-- A command's effect on everything but the queue. -/
def exec (i : Instr) (s : State) : Host.Outcome State Fault Refusal :=
  match i with
  | .powerOnReset => Sys2Proof.Machine.execPowerOnReset s
  | .windowWrite value => Sys2Proof.Machine.execWindowWrite value s
  | .run => Sys2Proof.Machine.execRun s
  | .pause => Sys2Proof.Machine.execPause s
  | .resume => Sys2Proof.Machine.execResume s
  | .abort => Sys2Proof.Machine.execAbort s
  | .hushSet => Sys2Proof.Machine.execHushSet s
  | .hushClear => Sys2Proof.Machine.execHushClear s
  | .reset => Sys2Proof.Machine.execReset s
  | .unknownCommand code => Sys2Proof.Machine.execUnknownCommand code s
  | .nudge value => Sys2Proof.Machine.execNudge value s
  | .eventsWrite value => Sys2Proof.Machine.execEventsWrite value s
  | .eventEnableWrite value => Sys2Proof.Machine.execEventEnableWrite value s
  | .ignoredRegisterWrite offset value => Sys2Proof.Machine.execIgnoredRegisterWrite offset value s
  | .millisecondStep keys hushLine => Sys2Proof.Machine.execMillisecondStep keys hushLine s
  | .repromptExpiry => Sys2Proof.Machine.execRepromptExpiry s
  | .settleExpiry => Sys2Proof.Machine.execSettleExpiry s
  | .handoffWaitExpiry => Sys2Proof.Machine.execHandoffWaitExpiry s
  | .restartExpiry => Sys2Proof.Machine.execRestartExpiry s
  | .sampleSlot => Sys2Proof.Machine.execSampleSlot s
  | .endMarkReport => Sys2Proof.Machine.execEndMarkReport s
  | .busGrant => Sys2Proof.Machine.execBusGrant s
  | .busError => Sys2Proof.Machine.execBusError s
  | .setupReadReturn word => Sys2Proof.Machine.execSetupReadReturn word s
  | .setupCheck => Sys2Proof.Machine.execSetupCheck s
  | .linkReadReturn word => Sys2Proof.Machine.execLinkReadReturn word s
  | .stateReadReturn word => Sys2Proof.Machine.execStateReadReturn word s
  | .takenWriteComplete => Sys2Proof.Machine.execTakenWriteComplete s
  | .bodyReadReturn word => Sys2Proof.Machine.execBodyReadReturn word s
  | .retireWriteComplete => Sys2Proof.Machine.execRetireWriteComplete s
  | .activeWriteComplete => Sys2Proof.Machine.execActiveWriteComplete s
  | .keyTake => Sys2Proof.Machine.execKeyTake s
  | .alignmentCompletion => Sys2Proof.Machine.execAlignmentCompletion s
  | .presentationEnd => Sys2Proof.Machine.execPresentationEnd s
  | .lineWriteComplete => Sys2Proof.Machine.execLineWriteComplete s
  | .lineClose => Sys2Proof.Machine.execLineClose s
  | .lcWriteComplete => Sys2Proof.Machine.execLcWriteComplete s
  | .passReadReturn word => Sys2Proof.Machine.execPassReadReturn word s
  | .passWriteComplete => Sys2Proof.Machine.execPassWriteComplete s
  | .stringReadReturn word => Sys2Proof.Machine.execStringReadReturn word s
  | .unitHeaderReadReturn word => Sys2Proof.Machine.execUnitHeaderReadReturn word s
  | .sampleReadReturn word => Sys2Proof.Machine.execSampleReadReturn word s
  | .bufferWrite => Sys2Proof.Machine.execBufferWrite s
  | .handoffRecordWriteComplete => Sys2Proof.Machine.execHandoffRecordWriteComplete s
  | .handoffDoneReadReturn word => Sys2Proof.Machine.execHandoffDoneReadReturn word s
  | .recordWriteComplete => Sys2Proof.Machine.execRecordWriteComplete s
  | .scannerWriteComplete => Sys2Proof.Machine.execScannerWriteComplete s
  | .composerWriteComplete => Sys2Proof.Machine.execComposerWriteComplete s

end Sys2Proof.Machine
end

