-- ==== Sys2Proof/Safety.lean ====
section
/-! DEFINITION. What counts as a sound state of the part (the ranges the spec gives its registers and buffers, and the rules
of its bus port), and the words the statements use for "changes nothing else". -/
namespace Sys2Proof.Machine

/-- Every context field lies in its range (R36). -/
def Context.inRange (c : Context) : Prop :=
  (1 ≤ c.tries ∧ c.tries ≤ 3) ∧ c.hintMax ≤ 7 ∧ (1 ≤ c.slipLimit ∧ c.slipLimit ≤ 7) ∧ c.pass ≤ 100
    ∧ (1 ≤ c.gapBase ∧ c.gapBase ≤ 8) ∧ (1 ≤ c.reviewMax ∧ c.reviewMax ≤ 7)
    ∧ (1000 ≤ c.reprompt ∧ c.reprompt ≤ 30000 ∧ c.reprompt % 500 = 0) ∧ c.reprompts ≤ 3
    ∧ (200 ≤ c.settle ∧ c.settle ≤ 3000) ∧ (8 ≤ c.rate ∧ c.rate ≤ 32) ∧ c.wordGap ≤ 500 ∧ c.letterGap ≤ 1000
    ∧ c.phraseGap ≤ 1000 ∧ c.finalGap ≤ 2000 ∧ c.switchGap ≤ 50 ∧ (4 ≤ c.maxPhrase ∧ c.maxPhrase ≤ 64)
    ∧ c.volume ≤ 31 ∧ c.bank ≤ 3 ∧ (500 ≤ c.handoffWait ∧ c.handoffWait ≤ 10000)

/-- WINDOW's low 16 bits read as 0 (R1), and the coalescing counter is 0..7 (R13). -/
def Port.inRange (p : Port) : Prop := p.window &&& 0xFFFF = 0 ∧ p.coalesceSetting ≤ 7 ∧ p.coalesce ≤ 7

/-- A run of samples in progress has 1 to 14 of them: it ends at DEB, which is at most 15 (R66, R67). -/
def Debounce.inRange : Debounce → Prop
  | .up => True
  | .goingDown n _ => 1 ≤ n ∧ n ≤ 14
  | .down => True
  | .goingUp n => 1 ≤ n ∧ n ≤ 14

/-- The key FIFO's 16 entries, DEB, the 64 positions with their runs, and the 64 bytes of the key map (R65 to R67, R70, R72). -/
def Scanner.inRange (k : Scanner) : Prop :=
  k.fifo.length ≤ Config.fifoDepth ∧ 2 ≤ k.deb ∧ k.deb ≤ 15 ∧ k.keys.length = 64 ∧ k.keyMap.length = 64
    ∧ ∀ d ∈ k.keys, d.inRange

/-- Alternates of at most 24 letters (R33), mastery 0..15, reviews-so-far 0..7 and presentations 0..255 (R137). -/
def WordImage.inRange (w : WordImage) : Prop :=
  (∀ a ∈ w.alternates, a.length ≤ 24) ∧ w.mastery ≤ 15 ∧ w.reviews ≤ 7 ∧ w.presentations ≤ 255

/-- The image of a WORD card in its ranges. -/
def Image.inRange : Image → Prop
  | .word w => w.inRange
  | .empty => True
  | .say _ => True
  | .endCard => True

/-- The staged context (R36) and the image in the slot (R25). -/
def Walker.inRange (w : Walker) : Prop := w.staged.inRange ∧ w.image.inRange

/-- A review entry's due, 0..15, and its image (R137, R141). -/
def ReviewEntry.inRange (e : ReviewEntry) : Prop := e.due ≤ 15 ∧ e.image.inRange

/-- The review queue's 16 entries (R141), the active context (R53), and the images of the current card (R25) and of a
presentation end under way (R55). -/
def Lc.inRange (l : Lc) : Prop :=
  l.queue.length ≤ Config.reviewDepth ∧ (∀ e ∈ l.queue, e.inRange) ∧ l.active.inRange
    ∧ (∀ c, l.current = some c → c.image.inRange) ∧ ∀ e, l.ending = some e → e.image.inRange

/-- The settings of an utterance lie in the ranges of the context fields they are taken from (R36, R167). -/
def SpeechSettings.inRange (c : SpeechSettings) : Prop :=
  (8 ≤ c.rate ∧ c.rate ≤ 32) ∧ c.wordGap ≤ 500 ∧ c.letterGap ≤ 1000 ∧ c.phraseGap ≤ 1000 ∧ c.finalGap ≤ 2000
    ∧ c.switchGap ≤ 50 ∧ (4 ≤ c.maxPhrase ∧ c.maxPhrase ≤ 64) ∧ (500 ≤ c.handoffWait ∧ c.handoffWait ≤ 10000)

/-- The utterance queue's 4 entries, the sequence counters and the hand-off record's number (R164, R165, R182), and the
settings of the utterance started last. -/
def Speech.inRange (c : Speech) : Prop :=
  c.queue.length ≤ Config.utteranceDepth ∧ c.seq ≤ 255 ∧ c.handoffSeq ≤ 255 ∧ c.record.seq ≤ 255 ∧ c.settings.inRange

/-- The longest duration a timer can be armed with, in milliseconds (R82). -/
def TimerName.longest : TimerName → Nat
  | .reprompt => 30000
  | .settle => 3000
  | .handoffWait => 10000
  | .restart => Config.restartMs

/-- No timer has more time remaining than it can be armed with (R82). -/
def Clock.inRange (c : Clock) : Prop := ∀ n, (c.get n).left ≤ n.longest

/-- The output buffer's 512 entries, the volume and HUSHFILT (R194, R195, R199). -/
def Audio.inRange (a : Audio) : Prop :=
  a.buffer.length ≤ Config.bufferDepth ∧ a.volume ≤ 31 ∧ 1 ≤ a.hushFilt ∧ a.hushFilt ≤ 15
    ∧ a.hushRamp ≤ Config.hushRampSamples

/-- The trail and the counts of a try (R89, R102, R108), and the card image the engine works from. -/
def Engine.inRange (e : Engine) : Prop :=
  e.image.inRange ∧ e.trail.length ≤ Config.trailMax ∧ e.hints ≤ 7 ∧ e.replays ≤ 15 ∧ e.slips ≤ 255
    ∧ e.slipsHere ≤ 6 ∧ e.reprompts ≤ 3

/-- The job of the Alignment Unit (R120, R121, R134): the tables filled so far and the distances are those of the first
alternates of its copies, all of them in TRACING; a traceback result is the judging of the copies; an IDLE unit holds
nothing. -/
def AlignUnit.inRange (u : AlignUnit) : Prop :=
  u.tables.length ≤ u.alternates.length
    ∧ u.tables = (u.alternates.take u.tables.length).map (distanceTable u.trail)
    ∧ u.distances = (u.alternates.take u.tables.length).map (distance u.trail)
    ∧ (u.state = .tracing → u.tables.length = u.alternates.length)
    ∧ (∀ r, u.traced = some r → u.state = .tracing ∧ r = judge u.trail u.alternates)
    ∧ (u.state = .idle → u = {})

/-- Everything in its range. -/
structure State.InRange (s : State) : Prop where
  port : s.port.inRange
  walker : s.walker.inRange
  lc : s.lc.inRange
  scanner : s.scanner.inRange
  clock : s.clock.inRange
  engine : s.engine.inRange
  unit : s.unit.inRange
  speech : s.speech.inRange
  audio : s.audio.inRange

/-! ### The bus port -/

/-- Each requester has at most one access waiting or in progress (R15). -/
def Port.oneAccess (p : Port) : Prop := ∀ r, (p.waiting.get r).isSome = true → p.onBus r = none

/-- An access of a requester is in progress, its data wanted, and no soft reset has cut it loose. -/
def State.onBus (s : State) (r : Requester) (a : Access) : Prop :=
  ∃ b, s.port.busy = some b ∧ b.requester = r ∧ b.access = a ∧ b.discard = false ∧ b.orphan = false

/-! ### Nothing else changes -/

/-- The Lesson Controller has nothing to begin: its chain goes on, or no end and no closing is under way (R45). -/
def State.lcQuiet (s : State) : Prop := s.lc.chain ≠ [] ∨ (s.endUnderWay = false ∧ s.lc.closing = .clear)

/-- No write block holds and the Lesson Controller has nothing to begin. -/
def State.calm (s : State) : Prop := s.port.writeBlock = false ∧ s.lcQuiet

/-- An end under way whose chain cannot begin yet: the engine has still to report it, or the last writes to its card and the
close of the line are still to come (R55, R114, R161). -/
def State.endWaits (s : State) : Prop :=
  s.lc.chain = [] ∧ s.endUnderWay = true ∧ ∀ e, s.lc.ending = some e → e.writing = true ∨ s.cardWritesDone = false

/-- No write block holds, and the Lesson Controller has nothing to begin or an end that waits. -/
def State.steady (s : State) : Prop := s.port.writeBlock = false ∧ (s.lcQuiet ∨ s.endWaits)

/-! ### What stands after a step -/

/-- An armed timer is RUNNING while its condition holds and FROZEN while it does not (R85). -/
def Timer.follows (t : Timer) (condition : Prop) : Prop :=
  t.state ≠ .idle → (condition → t.state = .running) ∧ (¬ condition → t.state = .frozen)

/-- Every timer follows its condition of R85: REPROMPT is frozen while the lesson is PAUSED, hush is on, an utterance stands in
the queue or a hand-off is REQUESTED; SETTLE only while it is PAUSED; HANDOFF_WAIT while no hand-off is REQUESTED; RESTART
while hush is on. -/
def State.timersFollow (s : State) : Prop :=
  s.clock.reprompt.follows (s.lc.lesson ≠ .paused ∧ s.hush = false ∧ s.speech.queue = [] ∧ s.speech.record.state ≠ .requested)
    ∧ s.clock.settle.follows (s.lc.lesson ≠ .paused)
    ∧ s.clock.handoffWait.follows (s.speech.record.state = .requested)
    ∧ s.clock.restart.follows (s.hush = false)

/-- No free requester has an access to issue, and under the write block none waits (R15, R16). -/
def State.accessesIssued (s : State) : Prop :=
  (s.port.writeBlock = false → ∀ r, s.port.free r = true → nextAccess s r = none)
    ∧ (s.port.writeBlock = true → s.port.waiting = {})

/-- What a step leaves behind it: timers under their conditions, and every access that can be issued issued. -/
def State.settled (s : State) : Prop := s.timersFollow ∧ s.accessesIssued

/-! ### What the engine asks for -/

/-- An utterance of this number, kind and parts stands in the queue, with the active context's BANK (R164, R165). -/
def State.speaks (s : State) (seq : Nat) (kind : UtteranceKind) (parts : List Part) : Prop :=
  ∃ u ∈ s.speech.queue, u.seq = seq % 256 ∧ u.kind = kind ∧ u.parts = parts ∧ u.bank = s.lc.active.bank

/-- The engine awaits an utterance of this kind and these parts that stands in the queue (R93). -/
def State.awaits (s : State) (awaited : Option Nat) (kind : UtteranceKind) (parts : List Part) : Prop :=
  ∃ u ∈ s.speech.queue, some u.seq = awaited ∧ u.kind = kind ∧ u.parts = parts

/-- Fewer than four entries but QUEUED echoes and cues, which a feedback removes (R166). -/
def Speech.feedbackRoom (c : Speech) : Prop := (c.queue.filter fun u => !u.loose).length < Config.utteranceDepth

/-- One redraw request, with the line worked out from the engine after it (R159 to R162): a rewrite begins where none is in
progress and is due otherwise; a line closed or closing takes none. -/
def State.redrawn (s t : State) : Prop :=
  t.line =
    if s.line.card.isSome = true ∧ s.line.closing = false then
      if s.line.phase = .idle then
        { s.line with due := false, phase := .cell 0, cells := lineCells t.engine s.lc.active.mode }
      else { s.line with due := true }
    else s.line

/-- A verdict taken by an engine that was in s and is in t (R110, R112, R113): final by the verdict and the try number, the
feedback parts of the table, and the duration and the latency from the captures. -/
def State.judged (s t : State) : Prop :=
  t.engine.final =
      (decide (t.engine.verdict = .correct) || decide (t.engine.verdict = .gaveUp)
        || decide (s.engine.tryNo = s.lc.active.tries))
    ∧ t.engine.feedbackParts = t.engine.feedbackFor t.engine.verdict t.engine.final t.engine.judged
    ∧ t.engine.duration = min 65535 (s.clock.time - s.engine.promptStart).toNat
    ∧ (∀ t0, s.engine.opening = .done → s.engine.openingDone = some t0 →
        t.engine.latency = min 65535 ((s.engine.firstLetter.getD s.clock.time) - t0).toNat)
    ∧ (s.engine.opening ≠ .done → t.engine.latency = 0)
    ∧ ∀ k ∈ [1, 2, 3, 4], k ∈ t.engine.words

/-- The feedback of a verdict is placed and awaited where the queue has room (R113, R166). -/
def State.feedsBack (s t : State) : Prop :=
  s.speech.feedbackRoom → t.awaits t.engine.awaitFeedback .feedback t.engine.feedbackParts

/-! ### What a plan is made of -/

/-- The string a part is read from, at its utterance's start (R170). -/
def partString (dir : List BankEntry) (bank : Nat) (c : SpeechSettings) (p : Part) : Option Nat :=
  match partForm dir bank c p with
  | .string ref => some ref
  | _ => none

/-- The phrases of a part that is not read from a string (R170, R174, R182). -/
def partPlan (dir : List BankEntry) (bank : Nat) (c : SpeechSettings) (p : Part) : List Phrase :=
  match partForm dir bank c p with
  | .words ws gapMs => (partPhrases c.maxPhrase (gapSamples c gapMs) ws).1
  | .handoff card part => [{ handoff := some (card, part) }]
  | .replaced => (partPhrases c.maxPhrase 0 [[cueUnit dir bank cueWordMissing]]).1
  | .string _ => []

/-- The plan of t goes on, from a plan in s, over these parts (R171, R175): up to the first part read from a string, whose
reading begins; with none left it is complete, and with a phrase in it the first phrase begins. -/
def State.planGoesOn (s t : State) (c : SpeechSettings) (plan : List Phrase) (parts : List Part) : Prop :=
  let read := partString s.audio.directory s.speech.bank c
  let made := fun ps : List Part => plan ++ ps.flatMap (partPlan s.audio.directory s.speech.bank c)
  (∀ front p rest, parts = front ++ p :: rest → (∀ x ∈ front, read x = none) → ∀ ref, read p = some ref →
    t.speech.plan = made front ∧ t.speech.planned = false ∧ t.speech.strRef = some ref ∧ t.speech.strBytes = []
      ∧ t.speech.parts = rest)
    ∧ ((∀ x ∈ parts, read x = none) → made parts ≠ [] →
      t.speech.plan = made parts ∧ t.speech.planned = true ∧ t.speech.strRef = none ∧ t.speech.phrase = 0
        ∧ t.speech.last = decide ((made parts).length = 1)
        ∧ t.speech.state ∈ [ComposerState.gather, .fill, .play, .handoff])

/-- A timer without the difference between RUNNING and FROZEN. -/
def Timer.bare (t : Timer) : Timer :=
  { t with state := match t.state with | .idle => .idle | .running => .running | .frozen => .running }

/-- The clock with its timers so. -/
def Clock.bare (c : Clock) : Clock :=
  { c with reprompt := c.reprompt.bare, settle := c.settle.bare, handoffWait := c.handoffWait.bare, restart := c.restart.bare }

/-- The state without what follows every command on chip: which accesses wait at the port (R15), whether an armed timer is
RUNNING or FROZEN (R85), and which hand-off accesses the composer has still to issue (R181). -/
def State.bare (s : State) : State :=
  { s with
    port := { s.port with waiting := {} }, clock := s.clock.bare
    speech := { s.speech with recWrites := [], doneWanted := false } }

end Sys2Proof.Machine
end

