-- ==== Sys2Proof/Certificates/Slice0/Obligations.lean ====
section
/-! DEFINITION. The statements about the part, in the order of the chapters they come from. `calm` and `bare` are Safety.lean's:
a calm state has no write block and a Lesson Controller with nothing to begin; a bare state leaves out which accesses wait at
the port, the difference between RUNNING and FROZEN, and which hand-off accesses are still to issue. A steady state is calm or has an end
under way that waits; a settled one has its timers under their conditions and nothing left to issue. `judged`, `feedsBack`,
`redrawn`, `awaits` and `speaks` say what a verdict, a redraw request and a placement leave; `planGoesOn` what a plan becomes. -/

open Sys2Proof Sys2Proof.Machine

/-- For every command c, every rest of the queue and every state s: step of s with c in front of that rest is exec c of s
with the rest as its queue. On an empty queue a step changes nothing but the Alignment Unit, and that only while a job
runs: in FILLING the table of the next alternate and its distance are made, or with all of them made TRACING is
entered; in TRACING the traceback result is that of the judging of the job's copies. What a step does on an empty
queue is the model's own choice (DESIGN CHOICE, logs 1 and 12).
(00_scope.md section 7, R121.) -/
def Obligations.StepRunsFront : Prop :=
  (∀ (c : Instr) (rest : List Instr) (s : State),
      step { s with pending := c :: rest } = exec c { s with pending := rest }) ∧
    ∀ s : State, s.pending = [] → ∃ t, step s = .next t ∧ t = { s with unit := t.unit } ∧
      (s.unit.state = .idle → t = s) ∧
      (∀ a rest, s.unit.state = .filling → s.unit.alternates.drop s.unit.tables.length = a :: rest →
        t.unit = { s.unit with
          tables := s.unit.tables ++ [distanceTable s.unit.trail a]
          distances := s.unit.distances ++ [distance s.unit.trail a] }) ∧
      (s.unit.state = .filling → s.unit.alternates.length ≤ s.unit.tables.length →
        t.unit = { s.unit with state := .tracing }) ∧
      (s.unit.state = .tracing → s.unit.inRange →
        t.unit = { s.unit with traced := some (judge s.unit.trail s.unit.alternates) })

/-- For every command c and state s: if c is well-formed, exec c s answers a next state; UNKNOWN_COMMAND with a listed
code 1..7 and IGNORED_REGISTER_WRITE at the offset of a register that takes writes are the ill-formed terms and are
refused by name, since those writes are other rows (DESIGN CHOICE, log 4). No command ends in a fault. For every
command and state: where exec answers a next state, the queue of waiting commands is as it was, so commands are taken
first in, first out and none is lost or added by the part (the queue is the model's frame, log 1).
(R7, R8, R46, 00_scope.md section 7.) -/
def Obligations.WellFormedCommandsRun : Prop :=
  ((∀ (c : Instr) (s : State), c.wf = true → ∃ t, exec c s = .next t) ∧
    (∀ (code : Word) (s : State), 1 ≤ code.toNat → code.toNat ≤ 7 →
      exec (.unknownCommand code) s = .refused .listedCommandCode) ∧
    ∀ (offset value : Word) (s : State), offset ∈ [0x00#32, 0x04#32, 0x08#32, 0x10#32, 0x14#32] →
      exec (.ignoredRegisterWrite offset value) s = .refused .takenRegisterOffset) ∧
  (∀ (c : Instr) (s t : State), exec c s = .next t → t.pending = s.pending)

/-- For every state, POWER_ON_RESET answers a next state with the queue kept and the power-on value of every row of the
reset tables: the registers and the port 0 and idle, interrupt line low, STATUS reading 0; walker OFF at cursor 0 with
an empty slot and default settings, no nudge pending and no deck waiting; lesson STOPPED, nothing held, counters 0, no
fault record and no pause; all 64 positions UP with DEB 5, an empty key map and FIFO, keys routed to the pass slot, no
pass operation and belief EMPTY; clock 0, timers IDLE with 0 remaining; engine IDLE with no card image, nothing
awaited or remembered, the per-try state empty and 0, unspoken and forced cut clear, no record word; unit IDLE and
empty; line closed, generation 0, EMPTY, no rewrite due or in progress; composer IDLE with an empty queue, no plan,
counters 0, record 0, NONE, 0, WORD, done-pending clear; buffer empty, no end mark, volume 20, no hush ramp, no
underrun, filter CLEAR with HUSHFILT 4, effective hush off, no bank present; codec word 0. The opening prompt, PENDING
there, and the registers that no reset table names (walker outcome, deck head, setup words and the like, and what an
absent directory entry holds) are at the model's values (DESIGN CHOICE, log 23). For every state, in every lesson
state, RESET answers a next state that differs from the power-on state only in this: the queue, WINDOW, EVENT_ENABLE
and the codec's last word are kept, and an access in progress on the bus goes on with its data and its error
disregarded. So EVENTS is 0 and HUSH is not set, and no access waits.
(R18, R42, R64, R78, R87, R119, R134, R150, R163, R190, R202, R17.) -/
def Obligations.ResetValues : Prop :=
  (∀ s : State, ∃ t, exec .powerOnReset s = .next t ∧ t.pending = s.pending ∧
    (t.port.window = 0 ∧ t.port.enable = 0 ∧ t.port.events = 0 ∧ t.interruptLine = false ∧ readRegister t 0x0C = 0 ∧
      t.port.coalesce = 0 ∧ t.port.ended = 0 ∧ t.port.writeBlock = false ∧ t.port.waiting = {} ∧ t.port.busy = none ∧
      t.port.rotation = .walker) ∧
    (t.walker.state = .off ∧ t.walker.cursor = 0 ∧ t.walker.slotHeld = false ∧ t.walker.image = .empty ∧ t.walker.staged = Context.defaults ∧
      t.walker.nudgePending = false ∧ t.walker.deckWaiting = false) ∧
    (t.lc.lesson = .stopped ∧ t.lc.closing = .clear ∧ t.lc.active = Context.defaults ∧ t.lc.current = none ∧
      t.lc.queue = [] ∧ t.lc.insertions = 0 ∧ t.lc.taken = 0 ∧ t.lc.retired = 0 ∧ t.lc.judged = 0 ∧ t.lc.rejected = 0 ∧
      t.lc.unqueued = 0 ∧ t.lc.faultCode = .noFault ∧ t.lc.faultRef = 0 ∧ t.lc.faultDetail = 0 ∧ t.lc.paused = none) ∧
    (t.scanner.keys = List.replicate 64 .up ∧ t.scanner.heldCount = 0 ∧ t.scanner.deb = 5 ∧
      t.scanner.keyMap = List.replicate 64 0 ∧ t.scanner.fifo = [] ∧ t.scanner.passOp = none ∧
      t.scanner.believesFull = false ∧ t.scanner.dropped = 0 ∧ t.scanner.blocked = 0 ∧ t.scanner.passDropped = 0 ∧
      t.keysToFifo = false) ∧
    (t.clock.time = 0 ∧ ∀ n, (t.clock.get n).state = .idle ∧ (t.clock.get n).left = 0) ∧
    (t.engine.state = .idle ∧ t.engine.left = .idle ∧ t.engine.card = 0 ∧ t.engine.image = {} ∧ t.engine.review = false ∧
      t.engine.sayRef = 0 ∧ t.engine.awaitPrompt = none ∧ t.engine.awaitFeedback = none ∧ t.engine.awaitSay = none ∧
      t.engine.tryNo = 0 ∧ t.engine.trail = [] ∧ t.engine.live = [] ∧ t.engine.hints = 0 ∧ t.engine.replays = 0 ∧
      t.engine.slips = 0 ∧ t.engine.slipsHere = 0 ∧ t.engine.reprompts = 0 ∧ t.engine.revealed = [] ∧
      t.engine.promptCut = false ∧ t.engine.opening = .pending ∧ t.engine.promptStart = 0 ∧
      t.engine.openingDone = none ∧ t.engine.firstLetter = none ∧ t.engine.verdict = .noVerdict ∧
      t.engine.judged = {} ∧ t.engine.latency = 0 ∧ t.engine.duration = 0 ∧ t.engine.unspoken = false ∧
      t.engine.forcedCut = false ∧ t.engine.shown = [] ∧ t.engine.words = []) ∧
    (t.unit.state = .idle ∧ t.unit.trail = [] ∧ t.unit.alternates = [] ∧ t.unit.tables = [] ∧ t.unit.distances = [] ∧
      t.unit.traced = none) ∧
    (t.line.card = none ∧ t.line.gen = 0 ∧ t.line.cells = List.replicate 32 { letter := 0, state := .empty } ∧
      t.line.due = false ∧ t.line.phase = .idle) ∧
    (t.speech.queue = [] ∧ t.speech.seq = 0 ∧ t.speech.state = .idle ∧ t.speech.phrase = 0 ∧ t.speech.last = false ∧
      t.speech.plan = [] ∧ t.speech.phrasePlan = [] ∧ t.speech.lookAhead = [] ∧
      t.speech.record = { seq := 0, state := .idle, ref := 0, part := .word } ∧ t.speech.donePending = false ∧
      t.speech.handoffSeq = 0 ∧ t.speech.bankFaults = 0 ∧ t.speech.handoffLapsed = 0 ∧ t.speech.echoDropped = 0) ∧
    (t.audio.buffer = [] ∧ t.audio.mark = none ∧ t.audio.volume = 20 ∧ t.audio.hushRamp = 0 ∧ t.audio.hushFilt = 4 ∧ t.audio.filter = .clear ∧
      t.audio.softHush = false ∧ t.hush = false ∧ t.audio.underrun = false ∧ t.audio.underruns = 0 ∧ t.audio.codec = 0 ∧
      ∀ b < 4, (t.audio.directory.getD b {}).present = false)) ∧
  (∀ s : State, ∃ t, exec .reset s = .next t ∧
    t = { State.reset with
      pending := s.pending
      port := { State.reset.port with
        window := s.port.window, enable := s.port.enable, busy := s.port.busy.map fun b => { b with orphan := true } }
      audio := { State.reset.audio with codec := s.audio.codec } })

/-- For every value and state: with the lesson STOPPED, ENDED or FAULTED the write sets WINDOW to the value with its low
16 bits 0, lifts the write block and shows ACCEPTED, and changes nothing else; in any other lesson state it shows
REFUSED and changes nothing else. For every state: a COMMAND write with a value not 1..7 shows REFUSED in STATUS and
changes nothing else; a write to STATUS or to any offset other than those of WINDOW, COMMAND, NUDGE, EVENTS and
EVENT_ENABLE changes nothing. For every state: offsets 0x00, 0x10 and 0x14 read WINDOW, EVENTS and EVENT_ENABLE;
STATUS at 0x0C reads the lesson state in bits 2..0, the last result in bit 3, effective hush in bit 4, context staged
in bit 5 (set exactly when the two contexts differ) and the fault code in bits 10..8, with every other bit 0; every
other offset reads 0. A host write at a slave offset is the command of that offset's register, well-formed, and an
ignored write at every other offset.
(R1, R7, R16, R8, 01_the_lesson_window.md section 1.7.) -/
def Obligations.RegisterAccess : Prop :=
  ((∀ (v : Word) (s : State),
    (s.lc.lesson ∈ [LessonState.stopped, .ended, .faulted] →
      exec (.windowWrite v) s = .next { s with
        port := { s.port with window := v &&& 0xFFFF0000#32, writeBlock := false, refused := false } }) ∧
    (s.lc.lesson ∉ [LessonState.stopped, .ended, .faulted] →
      exec (.windowWrite v) s = .next { s with port := { s.port with refused := true } })) ∧
  ((∀ (code : Word) (s : State), (code.toNat = 0 ∨ 7 < code.toNat) →
      exec (.unknownCommand code) s = .next { s with port := { s.port with refused := true } }) ∧
    ∀ (offset value : Word) (s : State), offset ∉ [0x00#32, 0x04#32, 0x08#32, 0x10#32, 0x14#32] →
      exec (.ignoredRegisterWrite offset value) s = .next s)) ∧
  (∀ s : State, readRegister s 0x00 = s.port.window ∧
    readRegister s 0x10 = s.port.events.setWidth 32 ∧ readRegister s 0x14 = s.port.enable.setWidth 32 ∧
    (let w := readRegister s 0x0C;
      w.extractLsb' 0 3 = BitVec.ofNat 3 s.lc.lesson.code ∧ w.getLsbD 3 = s.port.refused ∧ w.getLsbD 4 = s.hush ∧
        w.getLsbD 5 = decide (s.walker.staged ≠ s.lc.active) ∧ w.extractLsb' 6 2 = 0#2 ∧
        w.extractLsb' 8 3 = BitVec.ofNat 3 s.port.fault.code ∧ w.extractLsb' 11 21 = 0#21) ∧
    ∀ offset : Word, (offset ∉ [0x00#32, 0x0C#32, 0x10#32, 0x14#32] → readRegister s offset = 0) ∧
    ∀ v : Word, (registerWrite offset v).wf = true ∧
      (registerWrite 0x00 v = .windowWrite v ∧ registerWrite 0x08 v = .nudge v ∧ registerWrite 0x10 v = .eventsWrite v ∧
        registerWrite 0x14 v = .eventEnableWrite v) ∧
      (offset ∉ [0x00#32, 0x04#32, 0x08#32, 0x10#32, 0x14#32] →
        registerWrite offset v = .ignoredRegisterWrite offset v))

/-- For every value and state: EVENTS_WRITE answers the state with exactly the flags written as 1 clear and the others as
they were, and nothing else changed. A flag set before the clear ends clear; a flag set after it ends set.
(R11.) -/
def Obligations.EventsWriteClears : Prop :=
  ∀ (v : Word) (s : State), ∃ t, exec (.eventsWrite v) s = .next t ∧
    t = { s with port := { s.port with events := t.port.events } } ∧
    (∀ i < 8, t.port.events.getLsbD i = (s.port.events.getLsbD i && !v.getLsbD i)) ∧
    ∀ (e : Event) (i : Nat), i < 8 → e.mask.getLsbD i = true →
      (setEvent e t).port.events.getLsbD i = true ∧
      ∃ t', exec (.eventsWrite v) (setEvent e s) = .next t' ∧ (v.getLsbD i = true → t'.port.events.getLsbD i = false)

/-- For every value and state: EVENT_ENABLE_WRITE sets the eight enables from the low byte and changes nothing else; in
every state the interrupt line is high exactly when some flag is set whose enable is set; power-on reset leaves the
enables 0, and soft reset, RUN and ABORT keep them.
(R12.) -/
def Obligations.EventEnableWrite : Prop :=
  (∀ (v : Word) (s : State),
      exec (.eventEnableWrite v) s = .next { s with port := { s.port with enable := v.setWidth 8 } }) ∧
    (∀ s : State, s.interruptLine = true ↔
      ∃ i < 8, s.port.events.getLsbD i = true ∧ s.port.enable.getLsbD i = true) ∧
    (∀ s t : State, exec .powerOnReset s = .next t → t.port.enable = 0) ∧
    ∀ (c : Instr) (s t : State), c ∈ [Instr.reset, .run, .abort] → exec c s = .next t → t.port.enable = s.port.enable

/-- For every state: RUN is accepted exactly in STOPPED, ENDED and FAULTED; PAUSE exactly in WAITING and PRESENTING while
not closing; RESUME exactly in PAUSED while not closing; ABORT exactly outside STOPPED while not closing; HUSH_SET,
HUSH_CLEAR and RESET always. An accepted command shows ACCEPTED; a refused one answers the state with REFUSED shown
and nothing else changed. A value written to COMMAND is decoded as section 1.7 lists: 1 RUN, 2 PAUSE, 3 RESUME, 4
ABORT, 5 HUSH_SET, 6 HUSH_CLEAR, 7 RESET, and any other value an unknown command.
(R8, R46, 01_the_lesson_window.md section 1.7.) -/
def Obligations.CommandDecisions : Prop :=
  ∀ s : State,
    let refuse : Host.Outcome State Fault Refusal := .next { s with port := { s.port with refused := true } };
    let accept := fun c : Instr => ∃ t, exec c s = .next t ∧ t.port.refused = false;
    (if s.lc.lesson ∈ [LessonState.stopped, .ended, .faulted] then accept .run else exec .run s = refuse) ∧
    (if s.lc.lesson ∈ [LessonState.waiting, .presenting] ∧ s.lc.closing = .clear then accept .pause
      else exec .pause s = refuse) ∧
    (if s.lc.lesson = .paused ∧ s.lc.closing = .clear then accept .resume else exec .resume s = refuse) ∧
    (if s.lc.lesson ≠ .stopped ∧ s.lc.closing = .clear then accept .abort else exec .abort s = refuse) ∧
    accept .hushSet ∧ accept .hushClear ∧ accept .reset ∧
    (registerWrite 0x04 1 = .run ∧ registerWrite 0x04 2 = .pause ∧ registerWrite 0x04 3 = .resume ∧
      registerWrite 0x04 4 = .abort ∧ registerWrite 0x04 5 = .hushSet ∧ registerWrite 0x04 6 = .hushClear ∧
      registerWrite 0x04 7 = .reset ∧
      ∀ code : Word, (code.toNat = 0 ∨ 7 < code.toNat) → registerWrite 0x04 code = .unknownCommand code)

/-- For every state with the lesson STOPPED, ENDED or FAULTED, RUN answers a next state whose bare state is: lesson
STARTING with the setup reads behind the entry writes still under way, both contexts at the defaults, queue, counters
and fault record cleared, STATUS ACCEPTED with fault NONE, write block lifted; walker, engine, unit, line, composer
and clock fresh; scanner runs forgotten, FIFO and counters cleared, pass operation, belief, DEB and key map kept;
volume 20, underrun flag and counter cleared, buffer, hush and directory kept; WINDOW, EVENTS and EVENT_ENABLE kept.
Reads of the composer in flight are marked to be discarded. The working registers that no table of a lesson start
names (deck head, setup words, walker outcome, production counts and the like) are fresh too, at the values of power-
on reset (DESIGN CHOICE, log 23).
(R47, R48, R42, R64, R78, R87, R119, R134, R150, R163, R190, R202.) -/
def Obligations.RunStartsLesson : Prop :=
  ∀ s : State, s.lc.lesson ∈ [LessonState.stopped, .ended, .faulted] → ∃ t, exec .run s = .next t ∧
    t.bare = State.bare
      { pending := s.pending
        port := { s.port with refused := false, fault := .noFault, writeBlock := false, busy := t.port.busy }
        walker := {}
        lc := { lesson := .starting
                chain := s.lc.chain ++ (List.range 98).map fun k => { access := .setup k } }
        scanner := { s.scanner with
          keys := s.scanner.keys.map fun d => match d with
            | .up => .up | .goingDown _ _ => .up | .down => .down | .goingUp _ => .down
          fifo := [], dropped := 0, blocked := 0, passDropped := 0, pendCopies := [], starting := [] }
        clock := {}, engine := {}, unit := {}, line := {}, speech := {}
        audio := { s.audio with volume := 20, underrun := false, underruns := 0 } } ∧
    (s.port.busy = none → t.port.busy = none) ∧
    ∀ b, s.port.busy = some b → ∃ d, t.port.busy = some { b with discard := d } ∧
      (b.requester ∉ [Requester.header, .sample] → d = b.discard) ∧
      (b.requester = .sample → d = true) ∧
      (s.port.waiting.header = none → b.requester = .header → b.orphan = false →
        (b.access.isString = true ∨ b.access.isUnitWord = true ∨ b.access.isDoneRead = true) → d = true)

/-- For every state in WAITING or PRESENTING, not closing, with no write block and the Lesson Controller with nothing to
begin or an end under way that waits for the last feedback, the card's last writes or the line's close (State.steady
of Safety.lean), PAUSE answers a next state: lesson PAUSED with the state left and whether a presentation was in
progress remembered, mirror requested, ACCEPTED shown; utterance queue empty and a composer that had an utterance
idle, a playing one ramped down with its end mark gone, its REQUESTED hand-off cancelled; the engine SUSPENDED with
its state remembered unless it is IDLE or its presentation is ending; REPROMPT and SETTLE not RUNNING with their time
kept. Walker, scanner, unit, line, the rest of the Lesson Controller, the clock's time, WINDOW and events are
unchanged.
(R55, R57, R85, R116, R169, R189, R197.) -/
def Obligations.PauseSuspends : Prop :=
  ∀ s : State, s.lc.lesson ∈ [LessonState.waiting, .presenting] → s.lc.closing = .clear → s.steady →
    ∃ t, exec .pause s = .next t ∧
    t.lc = { s.lc with lesson := .paused, paused := some (s.lc.lesson, s.presentationInProgress), pendMirror := true } ∧
    t.port.refused = false ∧ t.port.events = s.port.events ∧ t.port.window = s.port.window ∧
    t.port.enable = s.port.enable ∧
    (t.speech.queue = [] ∧ (s.speech.queue ≠ [] → t.speech.state = .idle) ∧
      (s.speech.queue ≠ [] → s.speech.record.state = .requested →
        t.speech.record.state = .cancelled ∧ (t.clock.get .handoffWait).state = .idle)) ∧
    (∀ u us, s.speech.queue = u :: us → u.playing = true → s.speech.state ≠ .hushed →
      t.audio.buffer = rampDown 64 s.audio.buffer ∧ t.audio.mark = none) ∧
    (s.speech.queue = [] → t.audio = s.audio ∧ { t.speech with recWrites := [], doneWanted := false } =
      { s.speech with recWrites := [], doneWanted := false }) ∧
    (if s.engine.state = .idle ∨ s.engine.ending = true then t.engine = s.engine
      else t.engine = { s.engine with
        state := .suspended, left := s.engine.state, awaitPrompt := none, awaitFeedback := none, awaitSay := none
        keptReprompt := false, keptSettle := false }) ∧
    (∀ n ∈ [TimerName.reprompt, .settle], (t.clock.get n).state ≠ .running ∧
      (t.clock.get n).left = (s.clock.get n).left) ∧
    t.walker = s.walker ∧ t.scanner = s.scanner ∧ t.unit = s.unit ∧ t.line = s.line ∧ t.clock.time = s.clock.time

/-- For every PAUSED state, not closing, with no write block and the Lesson Controller with nothing to begin or an end
under way that waits (State.steady of Safety.lean), RESUME answers a next state. With a presentation suspended and no
expiry kept that acts in the state left, the lesson is PRESENTING and the engine is back in the state it left,
PROMPTING for one that left LISTENING and FEEDBACK for one whose judging has completed in the pause; a judging still
under way is waited for with nothing spoken. Placed and awaited, where the queue has room, is the word as prompt for
one that left PROMPTING, LISTENING or SETTLING, the same feedback for one that left FEEDBACK or whose judging has
completed, and the sentence for one that left SPEAKING. With a REPROMPT expiry kept, an engine that left LISTENING
acts on it as there, and nothing else is placed: with reprompts left the count advances and the word is prompted in
PROMPTING, with none left a WHOLE try with letters is submitted, and otherwise the try is TIMED_OUT; one that left
SETTLING, with a REPROMPT or a SETTLE expiry kept and a live alternate complete, ends the try CORRECT with the lowest
complete one; these verdicts have the times, redraw and feedback that JudgingResultTaken says. No expiry is kept after
that. With no presentation suspended and no end under way, the bare state is that of the presentation choice (whose
table ChoiceOfPresentation gives) applied to the lesson state before the pause; with an empty review queue and no card
in the slot that is WAITING with STARVED set. With an end under way the lesson is PRESENTING and nothing else changes
(DEDUCED, log 18). In every case the pause is no longer remembered, the mirror is requested and ACCEPTED shows.
(R58, R116, R117, R51, R55, R57, R104, R108, R113.) -/
def Obligations.ResumeGoesOn : Prop :=
  ∀ s : State, s.lc.lesson = .paused → s.lc.closing = .clear → s.steady →
    (∀ st, s.lc.paused = some (st, true) → s.engine.state = .suspended → s.engine.left ∉ [AttemptState.idle, .suspended] →
      (s.engine.keptReprompt = true → s.engine.left ∉ [AttemptState.listening, .settling]) →
      (s.engine.keptSettle = true → s.engine.left ≠ .settling) → s.engine.awaitPrompt = none →
      ∃ t, exec .resume s = .next t ∧ t.lc = { s.lc with lesson := .presenting, paused := none, pendMirror := true } ∧
        t.port.refused = false ∧ t.port.events = s.port.events ∧
        t.engine.state = (if s.engine.left = .listening then .prompting
          else if s.engine.left = .judging ∧ s.engine.feedbackDue = true then .feedback else s.engine.left) ∧
        t.engine.trail = s.engine.trail ∧ t.engine.tryNo = s.engine.tryNo ∧ t.engine.verdict = s.engine.verdict ∧
        (s.engine.left = .judging → s.engine.feedbackDue = false → t.speech.queue = s.speech.queue) ∧
        (s.engine.left ∈ [AttemptState.prompting, .listening, .settling] → s.speech.queue.length < 4 →
          t.awaits t.engine.awaitPrompt .prompt [s.engine.wordPart]) ∧
        (s.engine.left = .feedback ∨ (s.engine.left = .judging ∧ s.engine.feedbackDue = true) →
          t.engine.feedbackParts = s.engine.feedbackParts ∧ s.feedsBack t) ∧
        (s.engine.left = .speaking → s.speech.queue.length < 4 →
          t.awaits t.engine.awaitSay .say [.sentence s.engine.sayRef false s.engine.card]) ∧
        t.walker = s.walker ∧ t.scanner = s.scanner ∧ t.unit = s.unit ∧ t.line = s.line) ∧
    (∀ st, s.lc.paused = some (st, true) → s.engine.state = .suspended → s.engine.awaitPrompt = none →
      let back := fun t : State => t.lc = { s.lc with lesson := .presenting, paused := none, pendMirror := true } ∧
        t.port.refused = false ∧ t.port.events = s.port.events ∧ t.engine.keptReprompt = false ∧
        t.engine.keptSettle = false ∧ t.engine.trail = s.engine.trail ∧ t.walker = s.walker ∧ t.scanner = s.scanner;
      (s.engine.left = .listening → s.engine.keptReprompt = true → ∃ t, exec .resume s = .next t ∧ back t ∧
        (s.engine.reprompts < s.lc.active.reprompts →
          t.engine.state = .prompting ∧ t.engine.reprompts = s.engine.reprompts + 1 ∧ 1 ∈ t.engine.words ∧
          t.engine.promptParts = [s.engine.wordPart] ∧ t.unit = s.unit ∧
          (s.speech.queue.length < 4 → t.awaits t.engine.awaitPrompt .prompt [s.engine.wordPart])) ∧
        (s.lc.active.reprompts ≤ s.engine.reprompts → s.lc.active.mode = .whole → s.engine.trail ≠ [] →
          t.engine = { s.engine with state := .judging, keptReprompt := false, keptSettle := false } ∧
          t.unit = { state := .filling, trail := s.engine.trail, alternates := s.engine.image.alternates } ∧
          t.speech.queue = s.speech.queue) ∧
        (s.lc.active.reprompts ≤ s.engine.reprompts → (s.lc.active.mode = .live ∨ s.engine.trail = []) →
          t.engine.verdict = .timedOut ∧ t.engine.state = .feedback ∧ t.engine.judged.matched = 1 ∧
          t.engine.judged.distance = (s.engine.image.alternates.getD 0 []).length ∧ t.engine.judged.score = 0 ∧
          t.engine.judged.marks = [] ∧ t.unit = s.unit ∧ s.judged t ∧ s.feedsBack t ∧ s.redrawn t)) ∧
      (s.engine.left = .settling → (s.engine.keptReprompt = true ∨ s.engine.keptSettle = true) → ∀ a ∈ s.engine.live,
        s.engine.altLength a = s.engine.trail.length →
        (∀ b ∈ s.engine.live, s.engine.altLength b = s.engine.trail.length → a ≤ b) →
        ∃ t, exec .resume s = .next t ∧ back t ∧ t.engine.verdict = .correct ∧ t.engine.state = .feedback ∧
          t.engine.judged.matched = a ∧ t.engine.judged.distance = 0 ∧
          t.engine.judged.marks = List.replicate (s.engine.altLength a) .ok ∧ t.unit = s.unit ∧
          s.judged t ∧ s.feedsBack t ∧ s.redrawn t ∧ ∀ m ∈ [TimerName.reprompt, .settle], (t.clock.get m).state = .idle)) ∧
    (∀ st, s.lc.paused = some (st, false) → s.endUnderWay = false → s.lc.current = none → s.lc.queue = [] →
      s.walker.slotHeld = false → st ∈ [LessonState.waiting, .presenting] →
      ∃ t, exec .resume s = .next t ∧
        t.bare = State.bare { s with
          port := { s.port with refused := false, events := s.port.events ||| Event.starved.mask }
          lc := { s.lc with lesson := .waiting, paused := none, pendMirror := true } }) ∧
    (∀ st, s.lc.paused = some (st, false) → s.endUnderWay = false → ∃ t, exec .resume s = .next t ∧
      let c := choose true { s with lc := { s.lc with lesson := st, paused := none, pendMirror := true } };
      t.bare = State.bare { c with port := { c.port with refused := false } }) ∧
    (∀ st, s.lc.paused = some (st, false) → s.endUnderWay = true → ∃ t, exec .resume s = .next t ∧
      t.bare = State.bare { s with
        port := { s.port with refused := false }
        lc := { s.lc with lesson := .presenting, paused := none, pendMirror := true } })

/-- For every state in WAITING, PRESENTING or PAUSED, not closing, ABORT answers a next state that is closing and still
shows the same lesson state, ACCEPTED; the key FIFO is empty with its entries counted in KEYS_DROPPED, the utterance
queue is empty and a composer that had an utterance idle; RESTART is IDLE; where no presentation end is under way the
engine is IDLE with REPROMPT and SETTLE idle, and where one is and no write block holds, the engine is as it was; the
review queue, the current card, both contexts, TAKEN and RETIRED, EVENTS and the unit are as they were. The walker is
OFF at once only out of PARKED or OFF; one in HOLD, END held there too, stays there with its card in the slot, handed
over.
(R44, R59, R73, R84, R86, R119, R35, R40.) -/
def Obligations.AbortBeginsClosing : Prop :=
  ∀ s : State, s.lc.lesson ∈ [LessonState.waiting, .presenting, .paused] → s.lc.closing = .clear →
    ∃ t, exec .abort s = .next t ∧ t.port.refused = false ∧ t.lc.lesson = s.lc.lesson ∧ t.lc.closing ≠ .clear ∧
      t.scanner.fifo = [] ∧
      t.scanner.dropped.toNat = min 65535 (s.scanner.dropped.toNat + s.scanner.fifo.length) ∧
      t.speech.queue = [] ∧ (s.speech.queue ≠ [] → t.speech.state = .idle) ∧ (t.clock.get .restart).state = .idle ∧
      (s.endUnderWay = false → t.engine = {} ∧
        ∀ n ∈ [TimerName.reprompt, .settle], (t.clock.get n).state = .idle) ∧
      (s.endUnderWay = true → s.port.writeBlock = false → t.engine = s.engine) ∧
      t.lc.queue = s.lc.queue ∧ t.lc.current = s.lc.current ∧ t.lc.active = s.lc.active ∧
      t.walker.staged = s.walker.staged ∧ t.lc.taken = s.lc.taken ∧ t.lc.retired = s.lc.retired ∧
      t.port.events = s.port.events ∧ t.unit = s.unit ∧ t.scanner.keys = s.scanner.keys ∧
      t.walker.state = (if s.walker.state = .parked then .off else s.walker.state) ∧
      (s.walker.state = .hold → t.walker.handed = true ∧ t.walker.aborting = true ∧ t.walker.card = s.walker.card ∧
        t.walker.slotHeld = s.walker.slotHeld ∧ t.walker.image = s.walker.image) ∧
      (s.walker.state ∉ [WalkerState.hold, .parked, .off] → t.walker.aborting = true)

/-- For every state in STARTING, not closing, without a write block and with no end under way, ABORT answers a next state
that is closing and still shows STARTING and ACCEPTED. No setup read is left in the chain but one already issued; with
the setup read and no access of the Lesson Controller outstanding, the chain holds the STOPPED mirror alone once no
starting write of the scanner and the composer is left, and nothing before. DEB, key map, HUSHFILT, directory, window,
events and the clock's time are as they were. That the lesson still shows STARTING while the STOPPED mirror stands is
the model's reading (DEDUCED, log 8), and so is which starting writes stay (DEDUCED, log 32). For every state in ENDED
or FAULTED, not closing and with no end under way, ABORT answers a next state: without a write block its bare state is
the old one with the lesson STOPPED, the mirror requested and ACCEPTED shown, and nothing else changed, so the fault
code and the fault record stay; under a write block the lesson is STOPPED too and the mirror is not requested.
(R44, R50, R67, R70, R191, R199, R60, R16.) -/
def Obligations.AbortAtTheEdges : Prop :=
  (∀ s : State, s.lc.lesson = .starting → s.lc.closing = .clear → s.port.writeBlock = false → s.endUnderWay = false →
    ∃ t, exec .abort s = .next t ∧ t.port.refused = false ∧ t.lc.lesson = .starting ∧ t.lc.closing ≠ .clear ∧
      (∀ it ∈ t.lc.chain.tail, it.isSetup = false) ∧
      (s.port.outstanding .lesson = none → ∀ it ∈ t.lc.chain, it.isSetup = false) ∧
      (s.port.outstanding .lesson = none → s.lc.setup.length = 98 →
        t.lc.chain = (if t.scanner.starting = [] ∧ t.speech.starting = [] then
          [{ access := .mirrorStopped, after := .stopped }] else [])) ∧
      t.scanner.deb = s.scanner.deb ∧ t.scanner.keyMap = s.scanner.keyMap ∧ t.audio = s.audio ∧
      t.port.window = s.port.window ∧ t.port.events = s.port.events ∧ t.clock.time = s.clock.time) ∧
  (∀ s : State, s.lc.lesson ∈ [LessonState.ended, .faulted] → s.lc.closing = .clear → s.endUnderWay = false →
    (s.port.writeBlock = false → ∃ t, exec .abort s = .next t ∧
      t.bare = State.bare { s with
        port := { s.port with refused := false }, lc := { s.lc with lesson := .stopped, pendMirror := true } }) ∧
    (s.port.writeBlock = true → ∃ t, exec .abort s = .next t ∧ t.lc.lesson = .stopped ∧ t.lc.pendMirror = false ∧
      t.port.refused = false ∧ t.port.fault = s.port.fault ∧ t.port.writeBlock = true))

/-- For every state, HUSH_SET and HUSH_CLEAR answer a next state with the soft hush flag set or clear, ACCEPTED shown and
the filter as it was; HUSH is set in EVENTS exactly as before or because effective hush has changed. Where the
utterance queue is empty and the state is calm, a command that does not change effective hush changes nothing but the
flag and the result, and HUSH_SET that turns it on rescales the first 16 buffer entries, drops the rest and the end
mark, sets HUSH and requests the mirror, and changes nothing else. The hush ramp also drops an end-mark report made
and not yet taken (DESIGN CHOICE, log 7). What hush does with an utterance at the head is HushHoldsSpeech's.
(R46, R200, R201.) -/
def Obligations.HushCommands : Prop :=
  ∀ (on : Bool) (s : State),
    let c := if on then Instr.hushSet else .hushClear;
    let after := s.audio.filter.on || on;
    (∃ t, exec c s = .next t ∧ t.audio.softHush = on ∧ t.audio.filter = s.audio.filter ∧ t.hush = after ∧
      t.port.refused = false ∧ (s.lcQuiet → t.lc.lesson = s.lc.lesson) ∧
      t.port.events.getLsbD 7 = (s.port.events.getLsbD 7 || after != s.hush)) ∧
    (s.calm → after = s.hush → ∃ t, exec c s = .next t ∧
      t.bare = State.bare { s with
        port := { s.port with refused := false }, audio := { s.audio with softHush := on } }) ∧
    (s.calm → after = true → s.hush = false → s.speech.queue = [] → ∃ t, exec c s = .next t ∧
      t.bare = State.bare { s with
        port := { s.port with refused := false, events := s.port.events ||| Event.hush.mask }
        lc := { s.lc with pendMirror := true }
        audio := { s.audio with
          softHush := on, buffer := rampDown 16 s.audio.buffer, mark := none, markReport := false
          hushRamp := min 16 s.audio.buffer.length } })

/-- For every state and samples, MILLISECOND_STEP answers a next state whose clock reads 1 more modulo 2^32, with the
filter moved by one sample of the line. In every lesson state, and through the closing of a lesson and the write
block: where effective hush does not change, a timer with more than 1 ms left has lost 1 ms if it was RUNNING and
nothing otherwise, and one with 1 ms left that was RUNNING is IDLE with its expiry delivered; SETTLE does so where
hush changes too. After the step every armed timer follows its condition of R85 (State.timersFollow): REPROMPT is
frozen while the lesson is PAUSED, hush is on, an utterance stands in the queue or a hand-off is REQUESTED, SETTLE
only while the lesson is PAUSED, HANDOFF_WAIT while no hand-off is REQUESTED, RESTART while hush is on, and each is
RUNNING otherwise. With the line idle and the filter CLEAR in a calm state no block but the scanner and the timers is
touched: walker, engine, unit, line, composer and audio are as they were.
(R79, R80, R83, R85, R199.) -/
def Obligations.MillisecondStepCounts : Prop :=
  ∀ (keys : BitVec 64) (line : Bool) (s : State), ∃ t, exec (.millisecondStep keys line) s = .next t ∧
    t.clock.time = s.clock.time + 1 ∧
    t.audio.filter = (match s.audio.filter, line with
      | .clear, true => if s.audio.hushFilt ≤ 1 then .hushed else .asserting 1
      | .clear, false => .clear
      | .asserting k, true => if s.audio.hushFilt ≤ k + 1 then .hushed else .asserting (k + 1)
      | .asserting _, false => .clear
      | .hushed, true => .hushed
      | .hushed, false => if s.audio.hushFilt ≤ 1 then .clear else .releasing 1
      | .releasing _, true => .hushed
      | .releasing k, false => if s.audio.hushFilt ≤ k + 1 then .clear else .releasing (k + 1)) ∧
    t.timersFollow ∧
    (line = false → s.audio.filter = .clear → s.calm →
      t.walker = s.walker ∧ t.engine = s.engine ∧ t.unit = s.unit ∧ t.line = s.line ∧ t.audio = s.audio ∧ t.lc = s.lc ∧
      { t.speech with recWrites := [], doneWanted := false } = { s.speech with recWrites := [], doneWanted := false } ∧
      t.port.events = s.port.events) ∧
    (∀ n, t.hush = s.hush ∨ n = .settle →
      if (s.clock.get n).state = .running ∧ (s.clock.get n).left ≤ 1
        then (t.clock.get n).state = .idle ∧ (t.clock.get n).left = 0 ∧ (t.clock.get n).expired = true
        else (t.clock.get n).expired = (s.clock.get n).expired ∧
          (t.clock.get n).left = (s.clock.get n).left - if (s.clock.get n).state = .running then 1 else 0)

/-- For every state with 64 positions, samples and level of the HUSH line, the MILLISECOND_STEP leaves each position p as
R66's table says of its old state, its own sample and DEB, with the step time as the start time of a new run; no
position depends on another's sample. DEB and the key map are as they were. With no write block the rest of the
scanner is what the positions that complete a down run in this pass make of it, one after another in ascending order,
each counting the other positions held (DOWN or GOING_UP): a lower one as this pass leaves it, so that a lower one
accepted in the same pass counts, a higher one as it stood before. With two others held KEYS_BLOCKED advances and
nothing is made; otherwise with a meaning of 1..33 the event (position, meaning, run start time) joins the FIFO tail
when keys go to the FIFO and it is not PASS, KEYS_DROPPED advancing instead when the FIFO holds 16; it starts a pass
operation, or is counted in PASS_DROPPED while one is under way, in every other case; other meanings make no event.
(R65, R66, R68, R69, R70, R71, R72, R74, R75.) -/
def Obligations.ScanPassAndKeys : Prop :=
  (∀ (keys : BitVec 64) (line : Bool) (s t : State), s.scanner.keys.length = 64 →
    exec (.millisecondStep keys line) s = .next t →
    t.scanner.keys.length = 64 ∧ t.scanner.deb = s.scanner.deb ∧ t.scanner.keyMap = s.scanner.keyMap ∧
    ∀ p < 64, t.scanner.keys.getD p .up =
      match s.scanner.keys.getD p .up, keys.getLsbD p with
      | .up, true => .goingDown 1 s.clock.time
      | .up, false => .up
      | .goingDown k t0, true => if s.scanner.deb ≤ k + 1 then .down else .goingDown (k + 1) t0
      | .goingDown _ _, false => .up
      | .down, true => .down
      | .down, false => .goingUp 1
      | .goingUp _, true => .down
      | .goingUp k, false => if s.scanner.deb ≤ k + 1 then .up else .goingUp (k + 1)) ∧
  (∀ (n : Nat) (w : Word), Debounce.held .up = false ∧ Debounce.held (.goingDown n w) = false ∧
    Debounce.held .down = true ∧ Debounce.held (.goingUp n) = true) ∧
  (∀ (keys : BitVec 64) (line : Bool) (s : State), s.scanner.keys.length = 64 → s.port.writeBlock = false →
    ∃ t, exec (.millisecondStep keys line) s = .next t ∧
      let state := fun p : Nat => s.scanner.keys.getD p .up;
      let start := fun p => match state p with | .goingDown _ t0 => t0 | _ => 0;
      let accepted := (List.range 64).filter fun p =>
        keys.getLsbD p && match state p with | .goingDown k _ => decide (s.scanner.deb ≤ k + 1) | _ => false;
      let others := fun p : Nat => (List.range 64).countP fun q =>
        decide (q ≠ p) && (if q < p then t.scanner.keys.getD q .up else state q).held;
      let accept := fun (k : Scanner) (p : Nat) =>
        let m := (s.scanner.keyMap.getD p 0).toNat;
        let e : KeyEvent := { pos := p, meaning := m, time := start p };
        if 2 ≤ others p then k.count .blocked 1
        else if m = 0 ∨ 33 < m then k
        else if m ≠ 33 ∧ s.lc.lesson ∈ [LessonState.waiting, .presenting] ∧ s.lc.closing = .clear then
          (if k.fifo.length < 16 then { k with fifo := k.fifo ++ [e] } else k.count .dropped 1)
        else match k.passOp with
          | some _ => k.count .passDropped 1
          | none => { k with passOp := some (e, if k.believesFull then .read else .time) };
      t.scanner = { accepted.foldl accept s.scanner with keys := t.scanner.keys })

/-- For every state, REPROMPT_EXPIRY answers a next state; with none delivered it changes nothing (DESIGN CHOICE, log 2).
In a calm state, a delivered expiry that no arming has made stale, in LISTENING: with reprompts left the count
advances and the engine is PROMPTING with the word as its prompt, placed and awaited where the queue has room; with
none left, a WHOLE try with letters is submitted with the trail and alternates copied into the busy unit; otherwise
the try is TIMED_OUT with the values R131 gives. In SETTLING it ends the try CORRECT. In SUSPENDED it is kept, and in
every other state, as when it is stale, it is disregarded: engine and utterance queue are as they were. A SETTLE
expiry is likewise kept in SUSPENDED and disregarded when stale or outside SETTLING. With none delivered SETTLE_EXPIRY
changes nothing (DESIGN CHOICE, log 2). In a calm state, a delivered expiry that is not stale, in SETTLING with some
live alternate complete: the verdict is CORRECT, the matched alternate is the least of the complete live ones, the
distance 0 with no counts, every position marked OK, the score that of R130 with d = 0, the engine in FEEDBACK,
REPROMPT and SETTLE idle. Every verdict here has the finality, times, record words, redraw request and placed and
awaited feedback that JudgingResultTaken says.
(R108, R104, R100, R116, R120, R131, R110, R112, R113, R130, R132, R159.) -/
def Obligations.EngineExpiries : Prop :=
  (∀ s : State,
    (s.clock.reprompt.expired = false → exec .repromptExpiry s = .next s) ∧
    (s.clock.reprompt.expired = true → ∃ t, exec .repromptExpiry s = .next t ∧ t.clock.reprompt.expired = false ∧
      (s.clock.reprompt.stale = true → s.calm → t.engine = s.engine ∧ t.speech.queue = s.speech.queue) ∧
      (s.clock.reprompt.stale = false → s.calm →
        (s.engine.state = .listening → s.engine.reprompts < s.lc.active.reprompts →
          t.engine.state = .prompting ∧ t.engine.reprompts = s.engine.reprompts + 1 ∧ t.engine.trail = s.engine.trail ∧
          t.engine.promptParts = [s.engine.wordPart] ∧
          (s.speech.queue.length < 4 → t.awaits t.engine.awaitPrompt .prompt [s.engine.wordPart])) ∧
        (s.engine.state = .listening → s.lc.active.reprompts ≤ s.engine.reprompts →
          s.lc.active.mode = .whole → s.engine.trail ≠ [] →
          t.engine = { s.engine with state := .judging } ∧
          t.unit = { state := .filling, trail := s.engine.trail, alternates := s.engine.image.alternates }) ∧
        (s.engine.state = .listening → s.lc.active.reprompts ≤ s.engine.reprompts →
          (s.lc.active.mode = .live ∨ s.engine.trail = []) →
          t.engine.verdict = .timedOut ∧ t.engine.state = .feedback ∧ t.engine.judged.matched = 1 ∧
          t.engine.judged.distance = (s.engine.image.alternates.getD 0 []).length ∧ t.engine.judged.score = 0 ∧
          t.engine.judged.marks = [] ∧ t.unit = s.unit ∧ s.judged t ∧ s.feedsBack t ∧ s.redrawn t) ∧
        (s.engine.state = .settling → t.engine.verdict = .correct ∧ s.judged t ∧ s.feedsBack t ∧ s.redrawn t) ∧
        (s.engine.state = .suspended → t.engine = { s.engine with keptReprompt := true } ∧
          t.speech.queue = s.speech.queue) ∧
        (s.engine.state ∈ [AttemptState.idle, .prompting, .judging, .feedback, .speaking] →
          t.engine = s.engine ∧ t.speech.queue = s.speech.queue)))) ∧
  (∀ s : State,
    (s.clock.settle.expired = false → exec .settleExpiry s = .next s) ∧
    (s.clock.settle.expired = true → s.calm → s.clock.settle.stale = true ∨ s.engine.state ≠ .settling →
      ∃ t, exec .settleExpiry s = .next t ∧ t.clock.settle.expired = false ∧ t.speech.queue = s.speech.queue ∧
        t.engine = if s.clock.settle.stale = false ∧ s.engine.state = .suspended then { s.engine with keptSettle := true }
          else s.engine) ∧
    (∀ a, s.clock.settle.expired = true → s.clock.settle.stale = false → s.calm → s.engine.state = .settling →
      a ∈ s.engine.live → s.engine.altLength a = s.engine.trail.length →
      (∀ b ∈ s.engine.live, s.engine.altLength b = s.engine.trail.length → a ≤ b) →
      ∃ t, exec .settleExpiry s = .next t ∧ t.engine.verdict = .correct ∧ t.engine.state = .feedback ∧
        t.engine.judged = {
          matched := a, distance := 0, subs := 0, swaps := 0, omissions := 0, extras := 0
          score := score (s.engine.altLength a) 0 s.engine.hints s.engine.replays
            (if s.lc.active.mode = .live then s.engine.slips else 0) (s.engine.shown.getD (a - 1) []).length
          marks := List.replicate (s.engine.altLength a) .ok } ∧
        s.judged t ∧ s.feedsBack t ∧ s.redrawn t ∧ t.engine.trail = s.engine.trail ∧
        (∀ n ∈ [TimerName.reprompt, .settle], (t.clock.get n).state = .idle) ∧ t.unit = s.unit ∧ t.walker = s.walker))

/-- For every calm state, HANDOFF_WAIT_EXPIRY answers a next state; with none delivered it changes nothing (DESIGN CHOICE,
log 2). With the record REQUESTED, it becomes CANCELLED with its sequence number kept, HANDOFF_LAPSED advances
saturating, the timer is IDLE and the composer goes on to the trailing pause: in GAP with that pause to write; with a
pause of 0 samples, in GAP waiting for the end mark placed behind the buffer where the phrase was the last, and
otherwise at the next phrase. With no REQUESTED record only the expiry is taken. The expiry acts whatever has been
armed since it was delivered, and a timer armed anew is cancelled with it (DEDUCED, log 31). With none delivered
RESTART_EXPIRY changes nothing (DESIGN CHOICE, log 2). Delivered with the composer HUSHED, effective hush off and an
utterance at the head, the composer leaves HUSHED, the queue holds the same sequence numbers with the head PLAYING,
and an utterance that had not started takes its settings from the active context. One whose plan was made and which
was held at phrase n (HushHoldsSpeech says which) goes on from phrase n of the same plan: a phrase of units is
gathered afresh and ramped in, a hand-off phrase waits for an end mark in HANDOFF, to be requested again. One that had
not started, or was held before its plan was made, is planned from its first part: the plan grows by the parts up to
the first read from a string, which is then read, and with none such its first phrase begins, or an end mark is placed
where there is no phrase. With effective hush on, in a calm state, only the expiry is taken. The expiry acts whatever
has been armed since it was delivered (DEDUCED, log 31).
(R167, R170, R175, R176, R180, R182, R183, R185, R186, R187.) -/
def Obligations.ComposerExpiries : Prop :=
  (∀ s : State, s.calm →
    (s.clock.handoffWait.expired = false → exec .handoffWaitExpiry s = .next s) ∧
    (s.clock.handoffWait.expired = true → s.speech.record.state = .requested →
      let pause := gapSamples s.speech.settings
        (if s.speech.last then s.speech.settings.finalGap else s.speech.settings.phraseGap);
      ∃ t, exec .handoffWaitExpiry s = .next t ∧
        t.speech.record = { s.speech.record with state := .cancelled } ∧
        t.speech.handoffLapsed.toNat = min 65535 (s.speech.handoffLapsed.toNat + 1) ∧
        (t.clock.get .handoffWait).state = .idle ∧ t.speech.queue = s.speech.queue ∧ t.engine = s.engine ∧
        t.lc = s.lc ∧ t.audio = { s.audio with mark := t.audio.mark } ∧
        (0 < pause → t.speech.state = .gap ∧ t.speech.gap = .trailing ∧ t.speech.gapLeft = pause ∧ t.audio = s.audio) ∧
        (pause = 0 → s.speech.last = true → t.speech.state = .gap ∧ t.speech.waitMark = true ∧
          t.audio.mark = some s.audio.buffer.length) ∧
        (pause = 0 → s.speech.last = false → t.speech.phrase = s.speech.phrase + 1 ∧
          t.speech.state ∈ [ComposerState.gather, .fill, .play, .handoff])) ∧
    (s.clock.handoffWait.expired = true → s.speech.record.state ≠ .requested →
      ∃ t, exec .handoffWaitExpiry s = .next t ∧ t.bare = State.bare { s with
        clock := { s.clock with handoffWait := { s.clock.handoffWait with expired := false, stale := false } } })) ∧
  (∀ s : State,
    (s.clock.restart.expired = false → exec .restartExpiry s = .next s) ∧
    (∀ u us, s.clock.restart.expired = true → s.speech.state = .hushed → s.speech.queue = u :: us → s.hush = false →
      ∃ t, exec .restartExpiry s = .next t ∧ t.speech.state ≠ .hushed ∧
        t.speech.queue = { u with playing := true } :: us ∧
        (u.playing = false → t.speech.settings = SpeechSettings.of s.lc.active) ∧
        (u.playing = true → t.speech.settings = s.speech.settings) ∧ t.clock.restart.expired = false ∧
        (∀ n, u.playing = true → s.speech.planned = true → s.speech.replay = .phrase n →
          t.speech.plan = s.speech.plan ∧ t.speech.planned = true ∧ t.speech.phrase = n ∧
          t.speech.last = decide (n + 1 = s.speech.plan.length) ∧
          if (s.speech.plan.getD n {}).handoff = none then
            t.speech.state ∈ [ComposerState.gather, .fill, .play] ∧ t.speech.ramp = 1 ∧ t.audio = s.audio
          else t.speech.state = .handoff ∧ t.speech.waitMark = true ∧ t.audio.mark = some s.audio.buffer.length) ∧
        (u.playing = false ∨ s.speech.planned = false ∨ s.speech.replay = .start →
          let c := if u.playing then s.speech.settings else SpeechSettings.of s.lc.active;
          s.planGoesOn t c [] u.parts ∧
          ((∃ x ∈ u.parts, partString s.audio.directory s.speech.bank c x ≠ none) → t.speech.state = .gather) ∧
          (u.parts.flatMap (partPlan s.audio.directory s.speech.bank c) = [] →
            (∀ x ∈ u.parts, partString s.audio.directory s.speech.bank c x = none) →
            t.speech.state = .gap ∧ t.speech.waitMark = true ∧ t.audio.mark = some s.audio.buffer.length))) ∧
    (s.clock.restart.expired = true → s.hush = true → s.calm → ∃ t, exec .restartExpiry s = .next t ∧
      t.bare = State.bare { s with
        clock := { s.clock with restart := { s.clock.restart with expired := false, stale := false } } }))

/-- For every calm state, SAMPLE_SLOT answers a next state: with an end mark and no entry ahead of it the mark is removed,
its report made and 0 sent; otherwise with an entry at the head that entry is removed and sent as a 16-bit word, a
mark behind it one nearer; with nothing, 0 is sent, and UNDERRUNS advances with the flag set only in PLAY or GAP with
hush off, the flag clear and no report waiting to be taken (DESIGN CHOICE, log 7). Nothing else changes. For every
code the linear value is plus or minus (16 + mantissa) 2^segment - 16, between -3952 and 3952; the entry formed of it
is out = trunc(value VOLUME / 31), and in ramp step k trunc(out k / 64); for every volume up to 31 and ramp step up to
64 it is no larger in magnitude than the linear value, and 0 at volume 0; the cut ramp of a buffer keeps the first
min(64, length) entries, entry k becoming trunc(e (64 - k) / 64), so the 64th is 0, and no magnitude grows.
(R195, R196, R198, R201, R193, R194, R197.) -/
def Obligations.SamplesFormedAndSent : Prop :=
  (∀ s : State, s.calm → ∃ t, exec .sampleSlot s = .next t ∧
    t.bare = State.bare (match s.audio.mark, s.audio.buffer with
      | some 0, _ => { s with audio := { s.audio with mark := none, markReport := true, codec := 0 } }
      | m, e :: rest => { s with audio := { s.audio with
          buffer := rest, mark := m.map (· - 1), hushRamp := s.audio.hushRamp - 1, codec := BitVec.ofInt 16 e } }
      | _, [] =>
        if (s.speech.state = .play ∨ s.speech.state = .gap) ∧ s.hush = false ∧ s.audio.underrun = false ∧
            s.audio.markReport = false then
          (if s.audio.underruns = 65535 then { s with audio := { s.audio with underrun := true, codec := 0 } }
            else { s with
              audio := { s.audio with underrun := true, underruns := s.audio.underruns + 1, codec := 0 }
              lc := { s.lc with pendCopies := addOnce .underruns s.lc.pendCopies } })
        else { s with audio := { s.audio with codec := 0 } })) ∧
  ((∀ c : Byte, let mag : Int := (16 + (c.toNat % 16 : Nat)) * 2 ^ (c.toNat / 16 % 8) - 16;
      linear c = (if c.getLsbD 7 then -mag else mag) ∧ -3952 ≤ linear c ∧ linear c ≤ 3952) ∧
    (∀ (c : Byte) (volume k : Nat), formSample c volume 0 = (linear c * volume).tdiv 31 ∧
      (1 ≤ k → formSample c volume k = (formSample c volume 0 * k).tdiv 64)) ∧
    (∀ (c : Byte) (volume k : Nat), volume ≤ 31 → k ≤ 64 →
      (formSample c volume k).natAbs ≤ (linear c).natAbs ∧ formSample c 0 k = 0) ∧
    ∀ b : List Int, (rampDown 64 b).length = min 64 b.length ∧
      ∀ k, 1 ≤ k → k ≤ 64 → k ≤ b.length →
        (rampDown 64 b).getD (k - 1) 0 = (b.getD (k - 1) 0 * (64 - k : Int)).tdiv 64 ∧
        ((rampDown 64 b).getD (k - 1) 0).natAbs ≤ (b.getD (k - 1) 0).natAbs)

/-- With no report made END_MARK_REPORT changes nothing (DESIGN CHOICE, log 2). In a calm state with the composer waiting
in GAP for the end of the head: a prompt alone in the queue that a PROMPTING engine awaits empties the queue, and the
engine is in LISTENING with the opening prompt DONE if it was PENDING and REPROMPT armed with its full duration; an
awaited feedback, the final flag set, makes the presentation ending, the engine in FEEDBACK with none awaited, and
with the flag clear starts the next try with the word as its prompt; an awaited SAY ends its presentation, with
outcome DONE decided and the dues decremented (DEDUCED, log 10); where the engine awaits nothing, the next head starts
PLAYING with its settings from the active context, with hush off. Waiting before a hand-off phrase, the record becomes
REQUESTED with the next sequence number 1..255, the phrase's card and part.
(R94, R108, R114, R115, R167, R168, R182, R183, R91, R144.) -/
def Obligations.EndMarkReportActs : Prop :=
  ∀ s : State,
    (s.audio.markReport = false → exec .endMarkReport s = .next s) ∧
    (∀ u, s.audio.markReport = true → s.speech.waitMark = true → s.speech.state = .gap → s.speech.queue = [u] →
      s.engine.state = .prompting → s.engine.awaitPrompt = some u.seq → s.calm →
      ∃ t, exec .endMarkReport s = .next t ∧ t.speech.queue = [] ∧ t.speech.state = .idle ∧
        t.audio = { s.audio with markReport := false } ∧
        t.engine = { s.engine with
          state := .listening, awaitPrompt := none
          opening := if s.engine.opening = .pending then .done else s.engine.opening
          openingDone := if s.engine.opening = .pending then some s.clock.time else s.engine.openingDone } ∧
        (t.clock.get .reprompt).left = s.lc.active.reprompt ∧ (t.clock.get .reprompt).state ≠ .idle ∧
        t.lc = s.lc ∧ t.walker = s.walker ∧ t.scanner = s.scanner) ∧
    (∀ card part, s.audio.markReport = true → s.speech.waitMark = true → s.speech.state = .handoff →
      (s.speech.phraseAt s.speech.phrase).handoff = some (card, part) → s.calm →
      ∃ t, exec .endMarkReport s = .next t ∧
        let n := if 255 ≤ s.speech.handoffSeq then 1 else s.speech.handoffSeq + 1;
        t.bare = State.bare { s with
          audio := { s.audio with markReport := false }
          speech := { s.speech with
            handoffSeq := n, waitMark := false
            record := { seq := n, state := .requested, ref := card, part := part } } }) ∧
    (∀ u, s.audio.markReport = true → s.speech.waitMark = true → s.speech.state = .gap → s.speech.queue = [u] →
      s.engine.state = .feedback → s.engine.awaitFeedback = some u.seq → s.calm →
      ∃ t, exec .endMarkReport s = .next t ∧ t.walker = s.walker ∧ t.scanner = s.scanner ∧
        (s.engine.final = true → s.lc.ending = none → t.lc = s.lc ∧ t.speech.queue = [] ∧
          t.engine = { s.engine with ending := true, awaitFeedback := none }) ∧
        (s.engine.final = false → s.lc.lesson = .presenting → 1 ≤ s.engine.tryNo →
          t.engine.tryNo = s.engine.tryNo + 1 ∧ t.engine.state = .prompting ∧ t.engine.trail = [] ∧ t.engine.hints = 0 ∧
          t.engine.verdict = .noVerdict ∧ t.engine.opening = .pending ∧ t.engine.promptStart = s.clock.time ∧
          t.engine.promptParts = [s.engine.wordPart] ∧ (∀ k < 13, k ∈ t.engine.words) ∧
          ∃ p ∈ t.speech.queue, some p.seq = t.engine.awaitPrompt ∧ p.kind = .prompt ∧ p.parts = [s.engine.wordPart])) ∧
    (∀ u cur, s.audio.markReport = true → s.speech.waitMark = true → s.speech.state = .gap → s.speech.queue = [u] →
      s.engine.state = .speaking → s.engine.awaitSay = some u.seq → s.calm → s.lc.current = some cur →
      (∀ w, cur.image ≠ .word w) → ∃ t, exec .endMarkReport s = .next t ∧ t.speech.queue = [] ∧
        t.engine = { s.engine with state := .idle, awaitSay := none } ∧ t.lc.current = some cur ∧
        t.lc.queue = decrementDues s.lc.insertions s.lc.queue ∧
        ∃ e, t.lc.ending = some e ∧ e.card = cur.card ∧ e.final = none ∧ e.outcome = .done ∧ e.inserted = false) ∧
    (∀ u v us, s.audio.markReport = true → s.speech.waitMark = true → s.speech.state = .gap →
      s.speech.queue = u :: v :: us → v.playing = false → s.hush = false →
      s.engine.state ∈ [AttemptState.idle, .judging, .suspended] → s.calm →
      ∃ t, exec .endMarkReport s = .next t ∧ t.speech.queue = { v with playing := true } :: us ∧
        t.speech.settings = SpeechSettings.of s.lc.active ∧ t.speech.state ≠ .idle ∧ t.lc = s.lc ∧
        t.engine.state = s.engine.state)

/-- For every state: with an access in progress, or none waiting, BUS_GRANT leaves the port's access in progress and the
rotation as they are. Otherwise the granted requester is the sample requester if it waits, and otherwise the first
waiting one in the order walker, Lesson Controller, engine, line, scanner, header from the rotation's start; the
access in progress is that requester's, at WINDOW plus its offset modulo 2^32, carrying for a write the word as it
stands at the grant; the requester has nothing waiting; the rotation starts next time behind the requester granted,
and a sample grant does not move it. WINDOW is as it was. That it then leaves the port as it is is the model's own
choice (DESIGN CHOICE, log 2). WindowAccesses gives the offset and the word of every access. NextAccesses says which
access a requester has waiting.
(R1, R6, R14, R15.) -/
def Obligations.GrantFollowsRotation : Prop :=
  ∀ s : State, ∃ t, exec .busGrant s = .next t ∧
    (s.port.busy.isSome = true ∨ (∀ r, s.port.waiting.get r = none) →
      t.port.busy = s.port.busy ∧ t.port.rotation = s.port.rotation) ∧
    let order : List Requester := [.walker, .lesson, .engine, .line, .scanner, .header];
    ∀ r q, s.port.busy = none → s.port.waiting.get r = some q →
      (r = .sample ∨ (s.port.waiting.get .sample = none ∧
        ∃ i j, order[i]? = some s.port.rotation ∧ j < 6 ∧ order[(i + j) % 6]? = some r ∧
          ∀ k < j, ∀ r', order[(i + k) % 6]? = some r' → s.port.waiting.get r' = none)) →
      t.port.waiting.get r = none ∧ t.port.window = s.port.window ∧
      t.port.busy = some
        { requester := r, access := q.access, discard := q.discard, orphan := false
          address := s.port.window + BitVec.ofNat 32 (accessBus s q).1, write := (accessBus s q).2 } ∧
      (r = .sample → t.port.rotation = s.port.rotation) ∧
      (∀ i, order[i]? = some r → order[(i + 1) % 6]? = some t.port.rotation)

/-- For every state whose bus has an access in progress that no soft reset cut loose, BUS_ERROR answers a next state with
the bus free. With the lesson running or ENDED: FAULTED with BUS_ERROR in STATUS and the on-chip record (reference and
detail 0), FAULT set, write block in force with nothing waiting, closing clear, no card held, walker OFF, the key FIFO
emptied and counted, the utterance queue empty, RESTART IDLE, the engine IDLE, the line closed; TAKEN, RETIRED and
JUDGED stay. Already FAULTED: FAULT is set and the write block takes hold, the fault code and record staying. STOPPED,
in a calm state: the lesson, EVENTS, both fault codes and the write block are as they were. An access cut loose, or an
idle bus, changes nothing but the bus. That a bus error with an idle bus changes nothing is the model's own choice
(DESIGN CHOICE, log 2).
(R16, R17, R62, R73, R86, R119, R162.) -/
def Obligations.BusErrorFaults : Prop :=
  ∀ s : State,
    (s.port.busy = none → exec .busError s = .next s) ∧
    (∀ b, s.port.busy = some b → b.orphan = true → s.calm → ∃ t, exec .busError s = .next t ∧
      t.bare = State.bare { s with port := { s.port with busy := none } }) ∧
    (∀ b, s.port.busy = some b → b.orphan = false → ∃ t, exec .busError s = .next t ∧ t.port.busy = none ∧
      (s.lc.lesson ∉ [LessonState.stopped, .faulted] →
        t.lc.lesson = .faulted ∧ t.port.fault = .busError ∧ t.port.writeBlock = true ∧ t.port.waiting = {} ∧
        t.port.events = s.port.events ||| Event.fault.mask ∧
        t.lc.faultCode = .busError ∧ t.lc.faultRef = 0 ∧ t.lc.faultDetail = 0 ∧ t.lc.closing = .clear ∧
        t.lc.current = none ∧ t.lc.queue = [] ∧ t.lc.chain = [] ∧ t.walker.state = .off ∧ t.walker.slotHeld = false ∧
        t.scanner.fifo = [] ∧
        t.scanner.dropped.toNat = min 65535 (s.scanner.dropped.toNat + s.scanner.fifo.length) ∧
        t.speech.queue = [] ∧ (t.clock.get .restart).state = .idle ∧ t.engine = {} ∧ t.line.card = none ∧ t.line.phase = .idle ∧
        t.lc.taken = s.lc.taken ∧ t.lc.retired = s.lc.retired ∧ t.lc.judged = s.lc.judged ∧ t.lc.active = s.lc.active) ∧
      (s.lc.lesson = .faulted → s.lc.closing = .clear →
        t.lc.lesson = .faulted ∧ t.port.events = s.port.events ||| Event.fault.mask ∧ t.port.writeBlock = true ∧
        t.port.fault = s.port.fault ∧ t.lc.faultCode = s.lc.faultCode ∧ t.lc.faultRef = s.lc.faultRef ∧
        t.lc.faultDetail = s.lc.faultDetail) ∧
      (s.lc.lesson = .stopped → s.calm → s.lc.closing = .clear →
        t.lc.lesson = .stopped ∧ t.port.events = s.port.events ∧ t.port.writeBlock = false ∧ t.port.fault = s.port.fault ∧
        t.lc.faultCode = s.lc.faultCode))

/-- For every state with setup read k in progress, no write block and no end under way: while the lesson is not closing
the returned word joins the setup words and: word 0 becomes the deck head; word 1 gives DEB clamped to 2..15, HUSHFILT
to 1..15 and COALESCE to 0..7, with the coalescing counter loaded and the ended count 0; word 17 replaces the key map
whole by the 64 bytes of words 2 to 17; any other word below 97 changes nothing more. Word 97 replaces the bank
directory and makes the starting writes of every block wanted. While closing after an ABORT in STARTING, with more of
the chain to come, the word is discarded.
(R3, R48, R50, R67, R70, R191, R199.) -/
def Obligations.SetupWordsTaken : Prop :=
  ∀ (k : Nat) (v : Word) (s : State), s.onBus .lesson (.lc (.setup k) true) → s.port.writeBlock = false →
    s.endUnderWay = false →
    let l := { s.lc with chain := s.lc.chain.tail, setup := s.lc.setup ++ [v] };
    let p := { s.port with busy := none };
    (s.lc.closing = .clear → k < 97 → ∃ t, exec (.setupReadReturn v) s = .next t ∧
      t.bare = State.bare (
        if k = 0 then { s with port := p, lc := { l with deckHead := v } }
        else if k = 1 then
          { s with
            port := { p with
              coalesceSetting := min 7 (v.toNat / 65536 % 256), coalesce := min 7 (v.toNat / 65536 % 256), ended := 0 }
            lc := l
            scanner := { s.scanner with deb := max 2 (min 15 (v.toNat % 256)) }
            audio := { s.audio with hushFilt := max 1 (min 15 (v.toNat / 256 % 256)) } }
        else if k = 17 then
          { s with port := p, lc := l
                   scanner := { s.scanner with keyMap := (List.range 64).map fun p =>
                     (wordsBytes (((s.lc.setup ++ [v]).drop 2).take 16)).getD p 0 } }
        else { s with port := p, lc := l })) ∧
    (s.lc.closing = .clear → k = 97 → ∃ t, exec (.setupReadReturn v) s = .next t ∧ t.port.busy = none ∧
      t.audio = { s.audio with
        directory := (List.range 4).map fun b => bankEntry (wordsBytes (((s.lc.setup ++ [v]).drop (18 + 20 * b)).take 20)) } ∧
      t.scanner = { s.scanner with
        pendCopies := [.dropped, .blocked, .passDropped], starting := [.dropped, .blocked, .passDropped] } ∧
      t.lc.setup = s.lc.setup ++ [v] ∧ t.lc.lesson = s.lc.lesson ∧
      t.lc.chain = s.lc.chain.tail ++ ([.mirror, .currentRef 0, .copy .taken, .copy .retired, .copy .judged,
        .copy .rejected, .copy .unqueued, .copy .underruns, .faultWord 0 0, .faultWord 1 0].map (fun a => { access := a }) ++
        [{ access := .faultWord 2 0, after := .started }]) ∧
      t.speech.starting.length = 6) ∧
    (s.lc.closing = .start → ∃ t, exec (.setupReadReturn v) s = .next t ∧
      (s.lc.chain.tail ≠ [] ∨ s.scanner.starting ≠ [] ∨ s.speech.starting ≠ [] →
        t.bare = State.bare { s with port := p, lc := { s.lc with chain := s.lc.chain.tail } }) ∧
      (s.lc.chain.tail = [] → s.scanner.starting = [] → s.speech.starting = [] →
        t.bare = State.bare { s with
          port := p
          lc := { s.lc with closing := .final, chain := [{ access := .mirrorStopped, after := .stopped }] } }))

/-- For every STARTING state whose starting writes are all complete, not closing, without write block, with no card held,
SETUP_CHECK answers a next state. Bank 0 absent: FAULTED with NO_BANK, reference and detail 0. Otherwise a nonzero
deck head that is not a valid card reference: FAULTED with BAD_SETUP and the deck head as detail. In both the fault
record and then the mirror are to be written and FAULT is not yet set. Otherwise the bare state is the old one with
the lesson WAITING, STARVED set, the mirror requested and the walker in SEEK_LINK at offset 0 with nudge-pending and
deck-waiting clear. Before the writes are complete it changes nothing (DESIGN CHOICE, log 2).
(R27, R49, R10, R2.) -/
def Obligations.SetupCheckOutcome : Prop :=
  ∀ s : State,
    (s.lc.lesson ≠ .starting ∨ s.lc.started = false ∨ s.scanner.starting ≠ [] ∨ s.speech.starting ≠ [] →
      exec .setupCheck s = .next s) ∧
    (s.lc.lesson = .starting → s.lc.closing = .clear → s.lc.started = true → s.lc.chain = [] →
      s.scanner.starting = [] → s.speech.starting = [] → s.port.writeBlock = false → s.endUnderWay = false →
      s.lc.current = none → s.lc.queue = [] →
      let h := s.lc.deckHead;
      let ok := h = 0 ∨ (h.toNat % 4 = 0 ∧ h.toNat ≤ 0x3FF00);
      ∃ t, exec .setupCheck s = .next t ∧
      ((s.audio.directory.getD 0 {}).present = false ∨ ¬ ok →
        let code := if (s.audio.directory.getD 0 {}).present = false then FaultCode.noBank else .badSetup;
        let detail := if (s.audio.directory.getD 0 {}).present = false then 0 else h;
        t.lc.lesson = .faulted ∧ t.port.fault = code ∧ t.lc.faultCode = code ∧ t.lc.faultRef = 0 ∧
        t.lc.faultDetail = detail ∧ t.port.events = s.port.events ∧ t.walker.state = .off ∧
        t.lc.chain = [{ access := .faultWord 0 (BitVec.ofNat 32 code.code) }, { access := .faultWord 1 0 },
          { access := .faultWord 2 detail, after := .faultWritten }, { access := .mirror }]) ∧
      ((s.audio.directory.getD 0 {}).present = true → ok →
        t.bare = State.bare { s with
          port := { s.port with events := s.port.events ||| Event.starved.mask }
          lc := { s.lc with lesson := .waiting, pendMirror := true }
          walker := { s.walker with state := .seekLink, cursor := 0, nudgePending := false, deckWaiting := false } }))

/-- For every state with a link read of the walker in progress, wanted, LINK_READ_RETURN answers a next state. During an
ABORT the walker is OFF holding nothing. Otherwise, in a calm state: a valid card reference puts the walker in
SEEK_STATE at that card; a 0 with nudge-pending set sends it back to SEEK_LINK with the flag clear; a 0 otherwise
parks it with the deck-waiting indication raised, after which, in WAITING, the presentation choice is applied. Any
other value is LINK_RANGE: the lesson is closing for LINK_RANGE with the card whose link word was read (the cursor
less 4, and 0 at the deck head) and that value, giving cards back or, with none held and no chain to finish, at the
copies, still showing its state, the walker OFF, the key FIFO and the utterance queue empty, RESTART IDLE. For every
state with a header read of the walker in progress, wanted, STATE_READ_RETURN during an ABORT turns the walker OFF.
With no ABORT at the walker and in a calm state: a state byte POSTED of a card that is neither the current
presentation nor in the review queue puts the walker in CLAIM with that card's kind and tag kept, nudge-pending and
deck-waiting clear; anything else, with nudge-pending set, sends it to SEEK_LINK with the flag clear, and otherwise
parks it with deck-waiting raised, after which, in WAITING, the presentation choice is applied.
(R2, R28, R30, R40, R41, R52, R61, R20, R29, R86.) -/
def Obligations.WalkerReadOutcomes : Prop :=
  (∀ (off : Nat) (v : Word) (s : State), s.onBus .walker (.link off) →
    let p := { s.port with busy := none };
    (s.walker.aborting = true → ∃ t, exec (.linkReadReturn v) s = .next t ∧ t.walker.state = .off ∧
      t.walker.slotHeld = false ∧ t.walker.aborting = false) ∧
    (s.walker.aborting = false → s.calm →
      (v ≠ 0 → v.toNat % 4 = 0 → v.toNat ≤ 0x3FF00 → ∃ t, exec (.linkReadReturn v) s = .next t ∧
        t.bare = State.bare { s with
          port := p, walker := { s.walker with state := .seekState, card := { s.walker.card with ref := v } } }) ∧
      (v = 0 → s.walker.nudgePending = true → ∃ t, exec (.linkReadReturn v) s = .next t ∧
        t.bare = State.bare { s with
          port := p, walker := { s.walker with state := .seekLink, nudgePending := false } }) ∧
      (v = 0 → s.walker.nudgePending = false →
        ∃ t, exec (.linkReadReturn v) s = .next t ∧
        let parked : State := { s with port := p, walker := { s.walker with state := .parked, deckWaiting := true } };
        t.bare = State.bare (if s.lc.lesson = .waiting then choose false parked else parked)) ∧
      (v ≠ 0 → (v.toNat % 4 ≠ 0 ∨ 0x3FF00 < v.toNat) → ∃ t, exec (.linkReadReturn v) s = .next t ∧
        (let why := CloseWhy.linkRange (if s.walker.cursor = 0 then 0 else BitVec.ofNat 32 (s.walker.cursor - 4)) v;
          t.lc.closing = if s.lc.chain = [] ∧ s.lc.current = none ∧ s.lc.queue = [] then .copies why else .giveBack why) ∧
        t.lc.lesson = s.lc.lesson ∧ t.walker.state = .off ∧ t.walker.slotHeld = false ∧
        t.scanner.fifo = [] ∧ t.speech.queue = [] ∧ (t.clock.get .restart).state = .idle ∧ t.lc.queue = s.lc.queue ∧ t.lc.current = s.lc.current ∧
        t.port.events = s.port.events ∧ (s.endUnderWay = false → t.engine = {})))) ∧
  (∀ (off : Nat) (v : Word) (s : State), s.onBus .walker (.cardState off) →
    let p := { s.port with busy := none };
    let r := s.walker.card.ref;
    let held := (∃ c, s.lc.current = some c ∧ c.card.ref = r) ∨ ∃ e ∈ s.lc.queue, e.card.ref = r;
    (s.walker.aborting = true → ∃ t, exec (.stateReadReturn v) s = .next t ∧ t.walker.state = .off ∧
      t.walker.slotHeld = false) ∧
    (s.walker.aborting = false → s.calm →
      (v.toNat % 256 = 1 → ¬ held → ∃ t, exec (.stateReadReturn v) s = .next t ∧
        t.bare = State.bare { s with
          port := p
          walker := { s.walker with
            state := .claim, nudgePending := false, deckWaiting := false
            card := { ref := r, kind := BitVec.ofNat 8 (v.toNat / 256), tag := BitVec.ofNat 16 (v.toNat / 65536) } } }) ∧
      (v.toNat % 256 ≠ 1 ∨ held → s.walker.nudgePending = true → ∃ t, exec (.stateReadReturn v) s = .next t ∧
        t.bare = State.bare { s with
          port := p, walker := { s.walker with state := .seekLink, nudgePending := false } }) ∧
      (v.toNat % 256 ≠ 1 ∨ held → s.walker.nudgePending = false →
        ∃ t, exec (.stateReadReturn v) s = .next t ∧
        let parked : State := { s with port := p, walker := { s.walker with state := .parked, deckWaiting := true } };
        t.bare = State.bare (if s.lc.lesson = .waiting then choose false parked else parked))))

/-- For every state with the TAKEN write in progress: during an ABORT TAKEN advances modulo 2^32 and the walker, nothing
copied, hands over the card, which stands in the slot; where nothing else is held its outcome ABANDONED and RETIRED
state are the next writes. Otherwise, in a calm state, TAKEN advances and its copy is wanted, and a WORD, CONTEXT or
SAY card is in the slot and the walker in COPY with no body word read and its cursor at the card's link word; an END
card, which has no body word, is in HOLD, ready, after which, in WAITING, the presentation choice is applied; a card
of a kind not listed is to be given back REJECTED with BAD_KIND.
(R6, R21, R27, R31, R32, R33, R35, R40, R52, R59.) -/
def Obligations.TakenWriteTakesCard : Prop :=
  ∀ s : State, s.onBus .walker .takenWrite →
    let base : State := { s with
      port := { s.port with busy := none }
      lc := { s.lc with taken := s.lc.taken + 1, pendCopies := addOnce .taken s.lc.pendCopies } };
    let w := { s.walker with cursor := s.walker.card.ref.toNat + 4, slotHeld := true, body := [], image := .empty };
    ∃ t, exec .takenWriteComplete s = .next t ∧
    (s.walker.aborting = true → t.lc.taken = s.lc.taken + 1 ∧ t.walker = { w with state := .copy, handed := true } ∧
      (s.port.writeBlock = false → s.lc.closing = .giveBack .abort → s.lc.chain = [] → s.endUnderWay = false →
        s.lc.current = none → s.lc.queue = [] → t.lc.chain =
          [{ access := .outcome s.walker.card.ref .abandoned },
            { access := .header s.walker.card .retired, after := .gaveBack }])) ∧
    (s.walker.aborting = false → s.calm → s.walker.card.kind ∈ [1#8, 2#8, 3#8] →
      t.bare = State.bare { base with walker := { w with state := .copy } }) ∧
    (s.walker.aborting = false → s.calm → s.walker.card.kind = 4 →
      let ready := { base with walker := { w with state := .hold, image := .endCard } };
      t.bare = State.bare (if s.lc.lesson = .waiting then choose false ready else ready)) ∧
    (s.walker.aborting = false → s.calm → s.walker.card.kind ∉ [1#8, 2#8, 3#8, 4#8] →
      t.bare = State.bare { base with walker := { w with
        state := .retire, outcome := .rejected, detail := .badKind, clamped := false, outcomeDone := false } })

/-- For every state with a body read of the walker in progress, wanted. With no ABORT at the walker and in a calm state
the word joins the words copied. Short of the kind's 30, 12 or 1 words nothing else happens. With the last word: a
card that fails a test of R33 goes to RETIRE as REJECTED with that test's detail; a CONTEXT card's 24 fields are
merged into the staged context (CardChecksAndMerges gives both tables) and it goes to RETIRE as APPLIED with the
clamped flag as the merge says, the mirror requested exactly when context staged has changed; a card that passes is in
HOLD with its image, after which, in WAITING, the presentation choice is applied. During an ABORT the walker keeps the
card in the slot and hands it over; where nothing else is held its outcome ABANDONED and RETIRED state are the next
writes.
(R25, R26, R32, R33, R35, R37, R40, R52, R59.) -/
def Obligations.BodyReadCopies : Prop :=
  ∀ (off : Nat) (v : Word) (s : State), s.onBus .walker (.body off) →
    let base : State := { s with port := { s.port with busy := none } };
    let w := { s.walker with body := s.walker.body ++ [v] };
    let n := if s.walker.card.kind = 1 then 30 else if s.walker.card.kind = 2 then 12 else if s.walker.card.kind = 3 then 1 else 0;
    let bytes := wordsBytes (s.walker.body ++ [v]);
    ∃ t, exec (.bodyReadReturn v) s = .next t ∧
    (s.walker.aborting = true → (s.calm ∨ ∃ why, s.lc.closing = .giveBack why) →
      t.walker = { s.walker with handed := true } ∧
      (s.port.writeBlock = false → s.lc.closing = .giveBack .abort → s.lc.chain = [] → s.endUnderWay = false →
        s.lc.current = none → s.lc.queue = [] → s.walker.slotHeld = true → s.walker.state ≠ .off → t.lc.chain =
          [{ access := .outcome s.walker.card.ref .abandoned },
            { access := .header s.walker.card .retired, after := .gaveBack }])) ∧
    (s.walker.aborting = false → s.calm → s.walker.body.length + 1 < n → t.bare = State.bare { base with walker := w }) ∧
    (s.walker.aborting = false → s.calm → n ≤ s.walker.body.length + 1 →
      (∀ d, checkCard s.walker.card.kind bytes = .reject d → t.bare = State.bare { base with walker := { w with
        state := .retire, outcome := .rejected, detail := d, clamped := false, outcomeDone := false } }) ∧
      (∀ img, checkCard s.walker.card.kind bytes = .ready img →
        let ready : State := { base with walker := { w with state := .hold, image := img } };
        t.bare = State.bare (if s.lc.lesson = .waiting then choose false ready else ready)) ∧
      (checkCard s.walker.card.kind bytes = .merge →
        let m := mergeContext s.audio.directory s.walker.staged bytes;
        t.bare = State.bare { base with
          walker := { w with
            staged := m.1, state := .retire, outcome := .applied, detail := .noDetail, clamped := m.2, outcomeDone := false }
          lc := { s.lc with pendMirror := s.lc.pendMirror || t.contextStaged != s.contextStaged } }))

/-- For every calm state with a write of RETIRE in progress: the outcome word's completion only marks it done, so the
RETIRED write comes after it; the RETIRED write's completion advances RETIRED and wants its copy, for a rejected card
advances REJECTED too and sets REJECT, and leaves the slot empty with the walker in SEEK_LINK at its cursor, or OFF
during an ABORT.
(R6, R10, R24, R34, R40.) -/
def Obligations.RetireWritesGiveBack : Prop :=
  ∀ s : State, s.calm →
    (s.onBus .walker .walkerOutcome → ∃ t, exec .retireWriteComplete s = .next t ∧
      t.bare = State.bare { s with
        port := { s.port with busy := none }, walker := { s.walker with outcomeDone := true } }) ∧
    (s.onBus .walker .walkerRetired → ∃ t, exec .retireWriteComplete s = .next t ∧
      t.bare = State.bare { s with
        port := { s.port with
          busy := none
          events := if s.walker.outcome = .rejected then s.port.events ||| Event.reject.mask else s.port.events }
        lc := { s.lc with
          retired := s.lc.retired + 1
          rejected := if s.walker.outcome = .rejected then s.lc.rejected + 1 else s.lc.rejected
          pendCopies :=
            if s.walker.outcome = .rejected then addOnce .rejected (addOnce .retired s.lc.pendCopies)
            else addOnce .retired s.lc.pendCopies }
        walker :=
          if s.walker.aborting = true then { s.walker with
            state := .off, aborting := false, handed := false, nudgePending := false, deckWaiting := false
            slotHeld := false, image := .empty, body := [] }
          else { s.walker with state := .seekLink, slotHeld := false, image := .empty, body := [] } })

/-- For every state with the ACTIVE write of a chain in progress and the rest of the chain to come, not closing, no write
block and a current card: a WORD card in PRESENTING gives an engine in PROMPTING at try 1 of that card and image with
the per-try state cleared, all 13 record words waiting, the prompt of PATTERN chosen and, with room in the utterance
queue, placed and awaited, the prompt start captured, and the Line Builder open for the card with generation 0 to
write and a rewrite due; in PAUSED the engine is SUSPENDED with PROMPTING remembered and nothing is placed. A SAY card
gives an engine in SPEAKING of that card with its sentence placed and awaited, or SUSPENDED with SPEAKING remembered
in PAUSED. While closing nothing is handed over and the start's chain goes on (DEDUCED, log 19).
(R54, R89, R91, R92, R143, R154, R158.) -/
def Obligations.ActiveWriteHandsOver : Prop :=
  ∀ (card : CardId) (s : State), s.onBus .lesson (.lc (.header card .active) true) → s.port.writeBlock = false →
    s.lc.chain.tail ≠ [] →
    (∀ cur w, s.lc.closing = .clear → s.lc.lesson ∈ [LessonState.presenting, .paused] → s.lc.current = some cur →
      cur.image = .word w → ∃ t, exec .activeWriteComplete s = .next t ∧
        t.engine.card = cur.card.ref ∧ t.engine.image = w ∧ t.engine.review = cur.review ∧ t.engine.tryNo = 1 ∧
        t.engine.trail = [] ∧ t.engine.hints = 0 ∧ t.engine.replays = 0 ∧ t.engine.slips = 0 ∧
        t.engine.verdict = .noVerdict ∧ t.engine.opening = .pending ∧ t.engine.promptStart = s.clock.time ∧
        t.engine.shown = (w.alternates.map fun a => if cur.review then [] else maskPositions w a.length) ∧
        (∀ k < 13, k ∈ t.engine.words) ∧
        t.line.card = some cur.card.ref ∧ t.line.gen = 0 ∧ t.line.phase = .generationZero ∧ t.line.due = true ∧
        t.lc = { s.lc with chain := s.lc.chain.tail } ∧ t.walker = s.walker ∧ t.scanner = s.scanner ∧
        (s.lc.lesson = .presenting → t.engine.state = .prompting ∧
          t.engine.promptParts = t.engine.patternParts s.lc.active.pattern ∧
          (s.speech.queue.length < 4 → ∃ u ∈ t.speech.queue, some u.seq = t.engine.awaitPrompt ∧ u.kind = .prompt ∧
            u.parts = t.engine.promptParts)) ∧
        (s.lc.lesson = .paused → t.engine.state = .suspended ∧ t.engine.left = .prompting ∧
          t.speech.queue = s.speech.queue ∧ t.audio = s.audio)) ∧
    (∀ cur ref, s.lc.closing = .clear → s.lc.lesson ∈ [LessonState.presenting, .paused] → s.lc.current = some cur →
      cur.image = .say ref → ∃ t, exec .activeWriteComplete s = .next t ∧
        t.engine.card = cur.card.ref ∧ t.engine.sayRef = ref ∧ t.line = s.line ∧ t.engine.words = [] ∧
        t.lc = { s.lc with chain := s.lc.chain.tail } ∧
        (s.lc.lesson = .presenting → t.engine.state = .speaking ∧
          (s.speech.queue.length < 4 → ∃ u ∈ t.speech.queue, some u.seq = t.engine.awaitSay ∧ u.kind = .say ∧
            u.parts = [.sentence ref false cur.card.ref])) ∧
        (s.lc.lesson = .paused → t.engine.state = .suspended ∧ t.engine.left = .speaking ∧
          t.speech.queue = s.speech.queue)) ∧
    (s.lc.closing ≠ .clear → ∃ t, exec .activeWriteComplete s = .next t ∧
      t.bare = State.bare { s with
        port := { s.port with busy := none }, lc := { s.lc with chain := s.lc.chain.tail } })

/-- For every state with a write of the Lesson Controller in progress other than ACTIVE, no write block: a pending write
outside the chain changes nothing, in a calm state. The chain's head with nothing to bring about leaves the chain's
rest, and nothing else, where a rest stands or nothing is ending or closing. The header write of a presentation end
with more of the chain to come: JUDGED advances for a WORD card; for a card not inserted RETIRED advances and the card
is no longer current, and UNQUEUED advances, saturating, for outcome UNQUEUED; the review queue, contexts, EVENTS and
lesson state are as they were.
(R6, R45, R55, R138.) -/
def Obligations.LessonWriteCompletes : Prop :=
  ∀ (a : LcAccess) (s : State), Access.isLcWrite (.lc a true) = true → s.port.writeBlock = false →
    (s.onBus .lesson (.lc a false) → s.calm → ∃ t, exec .lcWriteComplete s = .next t ∧
      t.bare = State.bare { s with port := { s.port with busy := none } }) ∧
    (∀ a' rest, s.onBus .lesson (.lc a true) → s.lc.chain = { access := a', after := .nothing } :: rest →
      (rest ≠ [] ∨ (s.endUnderWay = false ∧ s.lc.closing = .clear)) →
      ∃ t, exec .lcWriteComplete s = .next t ∧
      t.bare = State.bare { s with port := { s.port with busy := none }, lc := { s.lc with chain := rest } }) ∧
    (∀ a' rest e, s.onBus .lesson (.lc a true) → s.lc.chain = { access := a', after := .endHeader } :: rest → rest ≠ [] →
      s.lc.ending = some e → ∃ t, exec .lcWriteComplete s = .next t ∧ t.lc.chain = rest ∧
        t.lc.judged = (if e.final.isSome then s.lc.judged + 1 else s.lc.judged) ∧
        t.lc.retired = (if e.inserted then s.lc.retired else s.lc.retired + 1) ∧
        t.lc.current = (if e.inserted then s.lc.current else none) ∧
        t.lc.unqueued.toNat = (if e.inserted = false ∧ e.outcome = .unqueued then min 65535 (s.lc.unqueued.toNat + 1)
          else s.lc.unqueued.toNat) ∧
        t.lc.queue = s.lc.queue ∧ t.lc.active = s.lc.active ∧ t.lc.lesson = s.lc.lesson ∧ t.lc.taken = s.lc.taken ∧
        t.port.events = s.port.events ∧ t.walker = s.walker ∧ t.engine = s.engine ∧ t.scanner = s.scanner)

/-- For every state without write block, not closing, with no final report waiting in the engine. At the current card
reference of an end REPORT is set exactly when the coalescing counter is 0 or 1, which then reloads with the ended
count 0, and otherwise the counter falls by 1 and the ended count rises; with more of the chain to come (the mirror,
where a card was inserted into the review queue) nothing else changes. At the last write of the chain, that reference
for a retired card or the mirror for an inserted one, the end is over, every LETTER event leaves the FIFO, counted in
KEYS_DROPPED, the others keeping their order, and the bare state is that of the presentation choice, whose table
ChoiceOfPresentation gives: with no current card, no review entry and an empty slot a PRESENTING lesson enters WAITING
with STARVED set, and a PAUSED one stays PAUSED, its choice waiting.
(R13, R51, R52, R55, R73.) -/
def Obligations.EndChainCompletes : Prop :=
  ∀ (ref : Word) (a : LcAccess) (s : State), s.port.writeBlock = false → s.lc.closing = .clear → s.engine.ending = false →
    let free := { s.port with busy := none };
    let ended := if s.port.coalesce ≤ 1 then
        { free with events := s.port.events ||| Event.report.mask, coalesce := s.port.coalesceSetting, ended := 0 }
      else { free with coalesce := s.port.coalesce - 1, ended := s.port.ended + 1 };
    let endOver := fun p : Port =>
      choose false { s with port := p, lc := { s.lc with ending := none, chain := [] }, scanner := s.scanner.flushLetters };
    (s.scanner.flushLetters.fifo = s.scanner.fifo.filter (fun e => !(1 ≤ e.meaning && e.meaning ≤ 27)) ∧
      s.scanner.flushLetters.dropped.toNat =
        min 65535 (s.scanner.dropped.toNat + (s.scanner.fifo.length - s.scanner.flushLetters.fifo.length))) ∧
    (s.onBus .lesson (.lc (.currentRef ref) true) → s.lc.chain = [{ access := a, after := .endCurrent true }] →
      ∃ t, exec .lcWriteComplete s = .next t ∧ t.bare = State.bare (endOver ended)) ∧
    (∀ it rest, s.onBus .lesson (.lc (.currentRef ref) true) →
      s.lc.chain = { access := a, after := .endCurrent false } :: it :: rest →
      ∃ t, exec .lcWriteComplete s = .next t ∧
        t.bare = State.bare { s with port := ended, lc := { s.lc with chain := it :: rest } }) ∧
    (s.onBus .lesson (.lc .mirror true) → s.lc.chain = [{ access := a, after := .endMirror }] →
      ∃ t, exec .lcWriteComplete s = .next t ∧ t.bare = State.bare (endOver free)) ∧
    (s.onBus .lesson (.lc (.currentRef ref) true) → s.lc.chain = [{ access := a, after := .endCurrent true }] →
      s.lc.current = none → s.lc.queue = [] → s.walker.slotHeld = false →
      s.lc.lesson ∈ [LessonState.presenting, .paused] →
      ∃ t, exec .lcWriteComplete s = .next t ∧ t.lc.ending = none ∧ t.lc.chain = [] ∧
        t.port.events = s.port.events ||| (if s.port.coalesce ≤ 1 then Event.report.mask else 0) |||
          (if s.lc.lesson = .presenting then Event.starved.mask else 0) ∧
        t.lc.lesson = (if s.lc.lesson = .presenting then .waiting else .paused) ∧
        t.walker = s.walker ∧ t.engine = s.engine ∧ t.lc.taken = s.lc.taken ∧ t.lc.retired = s.lc.retired)

/-- For every state to which the choice applies (WAITING or PRESENTING, not closing, no presentation in progress or
ending): with the head of the review queue at due 0 that head becomes the current presentation as a review and leaves
the queue; otherwise a ready WORD or SAY card in the slot becomes current and the walker goes to SEEK_LINK with an
empty slot; otherwise, with entries in the queue and END in the slot or the deck waiting, the head is presented
whatever its due; otherwise with END in the slot closing begins, keys and speech flushed and RESTART IDLE, and END,
still in the slot, is to be written ENDED and RETIRED; otherwise the lesson is WAITING, with STARVED set and the
mirror requested exactly when it was PRESENTING or RESUME applies the choice. Where a card is presented the lesson is
PRESENTING, the active context is the staged one, the volume its VOLUME, and the ACTIVE, current card and mirror
writes join the chain in that order, with nothing else changed.
(R21, R35, R51, R53, R54, R56, R58, R86, R143, R146, R194.) -/
def Obligations.ChoiceOfPresentation : Prop :=
  ∀ (resumed : Bool) (s : State), s.choiceApplies = true →
    let t := choose resumed s;
    let held := s.walker.state = .hold ∧ s.walker.slotHeld = true;
    let ready := held ∧ ((∃ w, s.walker.image = .word w) ∨ ∃ r, s.walker.image = .say r);
    let atEnd := held ∧ s.walker.image = .endCard;
    let presents := fun (cur : Current) (queue : List ReviewEntry) (walker : Walker) =>
      t = { s with
        lc := { s.lc with
          lesson := .presenting, current := some cur, queue := queue, active := s.walker.staged
          chain := s.lc.chain ++ [{ access := .header cur.card .active, after := .active },
            { access := .currentRef cur.card.ref }, { access := .mirror }] }
        audio := { s.audio with volume := s.walker.staged.volume }
        walker := walker };
    (∀ e rest, s.lc.queue = e :: rest → e.due = 0 →
      presents { card := e.card, image := .word e.image, review := true } rest s.walker) ∧
    ((∀ e ∈ s.lc.queue.head?, e.due ≠ 0) →
      (ready → presents { card := s.walker.card, image := s.walker.image, review := false } s.lc.queue
        { s.walker with state := .seekLink, slotHeld := false, image := .empty, body := [] }) ∧
      (¬ ready → ∀ e rest, s.lc.queue = e :: rest → (atEnd ∨ s.walker.deckWaiting = true) →
        presents { card := e.card, image := .word e.image, review := true } rest s.walker) ∧
      (¬ ready → s.lc.queue = [] → atEnd → t.walker = s.walker ∧ t.scanner.fifo = [] ∧ t.speech.queue = [] ∧
        (t.clock.get .restart).state = .idle ∧
        t.engine = s.engine ∧ t.port.events = s.port.events ∧
        t.lc = { s.lc with
          closing := .giveBack .ended
          chain := s.lc.chain ++ [{ access := .outcome s.walker.card.ref .ended },
            { access := .header s.walker.card .retired, after := .endCardRetired }] }) ∧
      (¬ ready → (s.lc.queue = [] ∨ s.walker.deckWaiting = false) → ¬ atEnd →
        t = if resumed = true ∨ s.lc.lesson = .presenting then { s with
            lc := { s.lc with lesson := .waiting, pendMirror := true }
            port := { s.port with events := s.port.events ||| Event.starved.mask } }
          else s))

/-- For every state with the RETIRED write of a give-back in progress and alone in the chain, no write block and no end
under way: RETIRED advances modulo 2^32; a current card is no longer held, and with none the head of the review queue
leaves it, and with no entry the slot is empty and the walker OFF, or still in HOLD where the card was END; nothing
else is let go of, TAKEN is as it was, where a review entry comes next its outcome and RETIRED state are to be written
next, and where nothing is held any more (for an END card after an ABORT, one that was handed over) the RETIRED copy
is, for LINK_RANGE with the current card reference 0 behind it. For every state without write block and with no end
under way, the bare state after the last access of the chain is the old one but for this: the STOPPED mirror's
completion makes the lesson STOPPED, closing clear, no pause remembered and the walker OFF holding nothing (that
STOPPED holds from there: DEDUCED, log 8); the last word of a fault record sets FAULT (DEDUCED, log 9); the END card's
RETIRED write advances RETIRED, empties the slot and leads to the RETIRED copy; a copy of an ABORT or an end leads to
the next pending copy in the order of R45; with none pending an end enters ENDED with END set, REPORT set if a
presentation has ended since the last one, the coalescing counter reloaded, the walker OFF and the mirror next, and an
ABORT goes on with the current card reference 0 and the STOPPED mirror; LINK_RANGE's current card reference enters
FAULTED, STATUS and the on-chip record holding LINK_RANGE with its reference and detail, closing clear, the walker
OFF, EVENTS as they were, the three record words and the mirror next.
(R6, R21, R35, R40, R45, R59, R10, R13, R50, R56, R61, R39.) -/
def Obligations.GiveBackAndClosing : Prop :=
  (∀ (card : CardId) (a : LcAccess) (why : CloseWhy) (s : State), s.onBus .lesson (.lc (.header card .retired) true) →
    s.lc.chain = [{ access := a, after := .gaveBack }] → s.lc.closing = .giveBack why → s.endUnderWay = false →
    s.port.writeBlock = false →
    ∃ t, exec .lcWriteComplete s = .next t ∧ t.lc.retired = s.lc.retired + 1 ∧ t.lc.taken = s.lc.taken ∧
      t.lc.lesson = s.lc.lesson ∧ t.lc.closing ≠ .clear ∧ t.lc.current = none ∧
      t.lc.queue = (if s.lc.current.isSome then s.lc.queue else s.lc.queue.tail) ∧
      t.walker.slotHeld = (s.walker.slotHeld && (s.lc.current.isSome || !s.lc.queue.isEmpty)) ∧
      (∀ e rest, t.lc.queue = e :: rest → t.lc.chain =
        [{ access := .outcome e.card.ref .abandoned }, { access := .header e.card .retired, after := .gaveBack }]) ∧
      (s.lc.current = none → s.lc.queue = [] → t.walker =
        if s.walker.state = .hold ∧ s.walker.slotHeld = true ∧ s.walker.image = .endCard then
          { s.walker with slotHeld := false, image := .empty, body := [] }
        else { s.walker with
          state := .off, aborting := false, handed := false, nudgePending := false, deckWaiting := false
          slotHeld := false, image := .empty, body := [] }) ∧
      (s.lc.current = none → s.lc.queue = [] →
        ((∃ r d, why = .linkRange r d) ∨ (why = .abort ∧ (s.walker.image = .endCard → s.walker.handed = true)) →
          t.lc.closing = .copies why ∧ t.lc.chain = { access := .copy .retired } ::
            (if why = .abort then [] else [{ access := .currentRef 0, after := .enterFaulted }]))) ∧
      t.engine = s.engine ∧ t.port.events = s.port.events ∧ t.scanner = s.scanner) ∧
  (∀ (a : LcAccess) (rest : List LcItem) (s : State), s.port.writeBlock = false → s.endUnderWay = false →
    let off : Walker := { s.walker with
      state := .off, aborting := false, handed := false, nudgePending := false, deckWaiting := false
      slotHeld := false, image := .empty, body := [] };
    (s.onBus .lesson (.lc .mirrorStopped true) → s.lc.chain = [{ access := a, after := .stopped }] →
      ∃ t, exec .lcWriteComplete s = .next t ∧ t.bare = State.bare { s with
        port := { s.port with busy := none }
        walker := off
        lc := { s.lc with lesson := .stopped, closing := .clear, paused := none, chain := [] } }) ∧
    (∀ v, s.onBus .lesson (.lc (.faultWord 2 v) true) → s.lc.chain = { access := a, after := .faultWritten } :: rest →
      rest ≠ [] → ∃ t, exec .lcWriteComplete s = .next t ∧ t.bare = State.bare { s with
        port := { s.port with busy := none, events := s.port.events ||| Event.fault.mask }
        lc := { s.lc with chain := rest } }) ∧
    (∀ card, s.onBus .lesson (.lc (.header card .retired) true) → s.lc.chain = [{ access := a, after := .endCardRetired }] →
      s.lc.closing = .giveBack .ended → s.lc.current = none → s.lc.queue = [] →
      ∃ t, exec .lcWriteComplete s = .next t ∧ t.bare = State.bare { s with
        port := { s.port with busy := none }
        walker := { s.walker with slotHeld := false, image := .empty, body := [] }
        lc := { s.lc with
          retired := s.lc.retired + 1, pendCopies := addOnce .retired s.lc.pendCopies
          closing := .copies .ended, chain := [{ access := .copy .retired }] } }) ∧
    (∀ c, s.onBus .lesson (.lc (.copy c) true) → s.lc.chain = [{ access := a }] → s.lc.closing = .copies .ended →
      s.lc.pendCopies = [] → ∃ t, exec .lcWriteComplete s = .next t ∧ t.bare = State.bare { s with
        port := { s.port with
          busy := none, coalesce := s.port.coalesceSetting, ended := 0
          events := s.port.events ||| Event.ended.mask ||| (if 0 < s.port.ended then Event.report.mask else 0) }
        walker := off
        lc := { s.lc with lesson := .ended, closing := .clear, paused := none, chain := [{ access := .mirror }] } }) ∧
    (∀ c why k, s.onBus .lesson (.lc (.copy c) true) → s.lc.chain = [{ access := a }] → s.lc.closing = .copies why →
      why ∈ [CloseWhy.abort, .ended] →
      [LcCounter.taken, .retired, .judged, .rejected, .unqueued, .underruns].find? (· ∈ s.lc.pendCopies) = some k →
      ∃ t, exec .lcWriteComplete s = .next t ∧ t.bare = State.bare { s with
        port := { s.port with busy := none }, lc := { s.lc with chain := [{ access := .copy k }] } }) ∧
    (∀ c, s.onBus .lesson (.lc (.copy c) true) → s.lc.chain = [{ access := a }] → s.lc.closing = .copies .abort →
      s.lc.pendCopies = [] → ∃ t, exec .lcWriteComplete s = .next t ∧ t.bare = State.bare { s with
        port := { s.port with busy := none }
        lc := { s.lc with
          closing := .final, chain := [{ access := .currentRef 0 }, { access := .mirrorStopped, after := .stopped }] } }) ∧
    (∀ r d, s.onBus .lesson (.lc (.currentRef 0) true) → s.lc.chain = [{ access := a, after := .enterFaulted }] →
      s.lc.closing = .copies (.linkRange r d) → ∃ t, exec .lcWriteComplete s = .next t ∧ t.bare = State.bare { s with
        port := { s.port with busy := none, fault := .linkRange }
        walker := off
        lc := { s.lc with
          lesson := .faulted, closing := .clear, paused := none, faultCode := .linkRange, faultRef := r, faultDetail := d
          chain := [{ access := .faultWord 0 3 }, { access := .faultWord 1 r },
            { access := .faultWord 2 d, after := .faultWritten }, { access := .mirror }] } }))

/-- For every calm state with a record write of the engine in progress and nothing of the engine waiting,
RECORD_WRITE_COMPLETE answers a next state whose bare state is the old one with the bus free; with record words
waiting and the engine not IDLE, the lowest-numbered of them is issued for the engine's card, and otherwise nothing of
the engine waits. For every calm state with a write of the Line Builder in progress, LINE_WRITE_COMPLETE answers a
next state: after cell word w below 15 comes w + 1; after cell word 15 the generation advances modulo 2^32 and is
written; after the generation, and after the generation-0 write of an opening, the rewrite ends, and with a rewrite
due for an open line the next begins with the line worked out anew from the engine's state at cell word 0, due clear;
nothing else changes. For a line not told to close, or with a rewrite in progress or due, LINE_CLOSE changes nothing
(DESIGN CHOICE, log 2). Otherwise, in a calm state, the line is closed with its card reference gone and its generation
and cells kept; where an end has been decided and not yet written, the chain is empty, no engine write is outstanding
and no write block holds, the chain becomes the writes of that end in the order of R55.
(R15, R118, R119, R158, R159, R160, R55, R161.) -/
def Obligations.CardWritesInOrder : Prop :=
  ((∀ (card : Word) (k : Nat) (s : State), s.onBus .engine (.record card k) → s.calm → s.port.waiting.engine = none →
    ∃ t, exec .recordWriteComplete s = .next t ∧
      t.bare = State.bare { s with port := { s.port with busy := none } } ∧
      (s.engine.state = .idle ∨ s.engine.words = [] → t.port.waiting.engine = none) ∧
      ∀ w ∈ s.engine.words, s.engine.state ≠ .idle → (∀ x ∈ s.engine.words, w ≤ x) →
        t.port.waiting.engine = some { access := .record s.engine.card w }) ∧
  (∀ (a : Access) (s : State), a.isLine = true → s.onBus .line a → s.calm →
    let base : State := { s with port := { s.port with busy := none } };
    ∃ t, exec .lineWriteComplete s = .next t ∧
    (∀ w < 15, s.line.phase = .cell w → t.bare = State.bare { base with line := { s.line with phase := .cell (w + 1) } }) ∧
    (s.line.phase = .cell 15 →
      t.bare = State.bare { base with line := { s.line with gen := s.line.gen + 1, phase := .generation } }) ∧
    (s.line.phase ∈ [LinePhase.generation, .generationZero] →
      t.bare = State.bare { base with
        line := if s.line.due = true ∧ s.line.card.isSome = true then
            { s.line with due := false, phase := .cell 0, cells := lineCells s.engine s.lc.active.mode }
          else { s.line with phase := .idle } }) ∧
    (s.line.phase = .idle → t.bare = base.bare))) ∧
  (∀ s : State,
    (s.line.closing = false ∨ s.line.phase ≠ .idle ∨ s.line.due = true → exec .lineClose s = .next s) ∧
    (s.line.closing = true → s.line.phase = .idle → s.line.due = false →
      let line := { s.line with card := none, closing := false };
      (s.calm → ∃ t, exec .lineClose s = .next t ∧ t.bare = State.bare { s with line := line }) ∧
      (∀ e, s.port.writeBlock = false → s.lc.chain = [] → s.lc.ending = some e → e.writing = false →
        s.port.free .engine = true → ∃ t, exec .lineClose s = .next t ∧ t.line = line ∧
          t.lc.ending = some { e with writing := true } ∧
          t.lc.chain.map (·.access) =
            (if e.final.isSome then [.endRecord 0, .endRecord 1, .endRecord 2, .endRecord 3, .endRecord 4, .mastery] else []) ++
            (if e.inserted then [] else [LcAccess.outcome e.card.ref e.outcome]) ++
            [.header e.card (if e.inserted then .review else .retired)] ++
            (if e.final.isSome then [.copy .judged] else []) ++
            (if e.inserted = true ∧ e.final.isSome then [] else [.copy .retired]) ++
            (if e.final.isSome ∧ e.outcome = .unqueued ∧ s.lc.unqueued ≠ 65535 then [.copy .unqueued] else []) ++
            [.currentRef 0] ++ (if e.inserted = true ∧ e.final.isSome then [.mirror] else []))))

/-- For every calm state with an access of the Key Scanner in progress: a read of the slot that finds a nonzero valid byte
drops the key, counted in PASS_DROPPED with the belief FULL; one that finds 0 goes on to the time write; the time
write's completion goes on to the slot write; the slot write's completion makes the belief FULL, ends the operation
and sets PASSKEY; a counter copy's completion strikes it from the starting writes. Nothing else changes.
(R10, R74, R75, R76.) -/
def Obligations.PassSlotProtocol : Prop :=
  ∀ (e : KeyEvent) (st : PassStage) (v : Word) (s : State), s.calm →
    let base : State := { s with port := { s.port with busy := none } };
    (s.onBus .scanner .passRead → s.scanner.passOp = some (e, st) → ∃ t, exec (.passReadReturn v) s = .next t ∧
      (v.toNat / 256 % 256 = 0 →
        t.bare = State.bare { base with scanner := { s.scanner with passOp := some (e, .time) } }) ∧
      (v.toNat / 256 % 256 ≠ 0 →
        t.bare = State.bare { base with scanner := t.scanner } ∧
        { t.scanner with passDropped := s.scanner.passDropped, pendCopies := s.scanner.pendCopies } =
          { s.scanner with passOp := none, believesFull := true } ∧
        t.scanner.passDropped.toNat = min 65535 (s.scanner.passDropped.toNat + 1))) ∧
    (s.onBus .scanner .passTime → s.scanner.passOp = some (e, st) → ∃ t, exec .scannerWriteComplete s = .next t ∧
      t.bare = State.bare { base with scanner := { s.scanner with passOp := some (e, .slot) } }) ∧
    (s.onBus .scanner .passSlot → ∃ t, exec .passWriteComplete s = .next t ∧
      t.bare = State.bare { base with
        port := { s.port with busy := none, events := s.port.events ||| Event.passkey.mask }
        scanner := { s.scanner with passOp := none, believesFull := true } }) ∧
    (∀ c, s.onBus .scanner (.ksCopy c) → ∃ t, exec .scannerWriteComplete s = .next t ∧
      t.bare = State.bare { base with
        scanner := { s.scanner with starting := s.scanner.starting.filter (· ≠ c) } })

/-- For every calm state with a wanted string read in progress for the string being read: while neither the end byte nor
96 bytes are covered the word's bytes from the reference on join the bytes read and nothing else changes. When the
string ends there the plan grows by the phrases of its words and by those of the parts behind it, up to the first part
read from a string: the reading of that one begins, the parts behind it left; with none left the plan is complete and,
with a phrase in it, the composer leaves for phrase 0. A word split in the string sets the forced cut flag, and a part
replaced by WORD_MISSING the unspoken flag, with record word 1 waiting, unless the engine is IDLE, SUSPENDED or
SPEAKING (DEDUCED, log 35); the rest of the engine, the utterance queue and the hand-off record are as they were. A
plan that is complete without any phrase completes the utterance at once: alone in the queue it leaves it, and the
engine that awaits it takes it as its end (a prompt in PROMPTING enters LISTENING with REPROMPT armed, a final
feedback makes the presentation ending, a SAY ends its presentation with DONE, DEDUCED, log 10); with another head
behind it and an engine that awaits nothing that head starts. A read no longer wanted changes nothing but the bus.
(R111, R115, R167, R168, R169, R170, R171, R172, R174, R175, R182.) -/
def Obligations.StringReadDecodes : Prop :=
  ∀ (off ref : Nat) (v : Word) (s : State), s.calm → s.speech.strRef = some ref →
    let bytes := s.speech.strBytes ++ (if s.speech.strBytes = [] then (wordBytes v).drop (ref % 4) else wordBytes v);
    let d := decodeString s.speech.bank (bytes.take 96);
    let phrases := partPhrases s.speech.settings.maxPhrase
      (gapSamples s.speech.settings s.speech.settings.wordGap) (tokenWords d.1);
    (s.onBus .header (.string off) → d.2 = false → bytes.length < 96 → ∃ t, exec (.stringReadReturn v) s = .next t ∧
      t.bare = State.bare { s with
        port := { s.port with busy := none }, speech := { s.speech with strBytes := bytes } }) ∧
    (s.onBus .header (.string off) → (d.2 = true ∨ 96 ≤ bytes.length) →
      let read := partString s.audio.directory s.speech.bank s.speech.settings;
      let made := s.speech.plan ++ phrases.1 ++
        s.speech.parts.flatMap (partPlan s.audio.directory s.speech.bank s.speech.settings);
      let done := s.speech.parts.takeWhile fun x => (read x).isNone;
      let replaced := done.any fun x =>
        match partForm s.audio.directory s.speech.bank s.speech.settings x with | .replaced => true | _ => false;
      let takes := decide (s.engine.state ∉ [AttemptState.idle, .suspended, .speaking]);
      ((∃ x ∈ s.speech.parts, read x ≠ none) ∨ made ≠ [] →
        ∃ t, exec (.stringReadReturn v) s = .next t ∧
          s.planGoesOn t s.speech.settings (s.speech.plan ++ phrases.1) s.speech.parts ∧
          ((∃ x ∈ s.speech.parts, read x ≠ none) → t.speech.state = s.speech.state) ∧
          t.speech.queue = s.speech.queue ∧ t.speech.record = s.speech.record ∧ t.lc = s.lc ∧ t.walker = s.walker ∧
          t.scanner = s.scanner ∧
          (1 ≤ s.speech.settings.maxPhrase → t.engine = { s.engine with
            forcedCut := s.engine.forcedCut || (takes && decide (0 < phrases.2))
            unspoken := s.engine.unspoken || (takes && replaced), words := t.engine.words }) ∧
          ((takes && (decide (0 < phrases.2) || replaced)) = true → 1 ∈ t.engine.words)) ∧
      ((∀ x ∈ s.speech.parts, read x = none) → made = [] → ∃ t, exec (.stringReadReturn v) s = .next t ∧
        (∀ u, s.speech.queue = [u] → t.audio = s.audio ∧
          (s.engine.state = .prompting → s.engine.awaitPrompt = some u.seq → t.speech.queue = [] ∧ t.speech.state = .idle ∧
            t.engine = { s.engine with
              state := .listening, awaitPrompt := none
              opening := if s.engine.opening = .pending then .done else s.engine.opening
              openingDone := if s.engine.opening = .pending then some s.clock.time else s.engine.openingDone } ∧
            (t.clock.get .reprompt).left = s.lc.active.reprompt ∧ (t.clock.get .reprompt).state ≠ .idle) ∧
          (s.engine.state = .feedback → s.engine.awaitFeedback = some u.seq → s.engine.final = true →
            t.speech.queue = [] ∧ t.engine = { s.engine with ending := true, awaitFeedback := none }) ∧
          ∀ cur, s.engine.state = .speaking → s.engine.awaitSay = some u.seq → s.lc.current = some cur →
            (∀ w, cur.image ≠ .word w) → t.speech.queue = [] ∧
            t.engine = { s.engine with state := .idle, awaitSay := none } ∧
            ∃ e, t.lc.ending = some e ∧ e.card = cur.card ∧ e.final = none ∧ e.outcome = .done) ∧
        ∀ u w us, s.speech.queue = u :: w :: us → w.playing = false → s.hush = false →
          s.engine.state ∈ [AttemptState.idle, .judging, .suspended] →
          t.speech.queue = { w with playing := true } :: us ∧ t.speech.settings = SpeechSettings.of s.lc.active ∧
          t.speech.state ≠ .idle ∧ t.engine.state = s.engine.state)) ∧
    (∀ b, s.port.busy = some b → b.requester = .header → b.access = .string off → b.discard = true →
      ∃ t, exec (.stringReadReturn v) s = .next t ∧
      t.bare = State.bare { s with port := { s.port with busy := none } })

/-- For every calm state with a wanted unit table read in progress and a unit still to resolve: short of the 2 words of
its entry, or 3 where the table is not aligned (DEDUCED, log 14), the word is kept and nothing else changes. With the
last word the unit joins the phrase plan in GATHER, or the look-ahead otherwise, as its span or, where the entry's
length is 0 or its span is not inside the window, as 640 samples of silence, and in the latter case BANK_FAULTS has
advanced unless saturated.
(R173, R178, R180, R192.) -/
def Obligations.UnitHeaderResolves : Prop :=
  ∀ (off : Nat) (u : UnitRef) (us : List UnitRef) (v : Word) (s : State), s.onBus .header (.unitWord off) → s.calm →
    s.speech.unresolved = u :: us →
    let x := (s.audio.directory.getD u.bank {}).table.toNat + 8 * u.num;
    let ws := s.speech.hdrWords ++ [v];
    let bs := (wordsBytes ws).drop (x % 4);
    let o := (wordAt bs 0).toNat;
    let len := halfAt bs 4 % 16384;
    let h := if len ≠ 0 ∧ o ≠ 0 ∧ o + len ≤ 0x40000 then UnitHeader.sound o len else .silence;
    (ws.length < (if x % 4 = 0 then 2 else 3) → ∃ t, exec (.unitHeaderReadReturn v) s = .next t ∧
      t.bare = State.bare { s with
        port := { s.port with busy := none }, speech := { s.speech with hdrWords := ws } }) ∧
    ((if x % 4 = 0 then 2 else 3) ≤ ws.length → ∃ t, exec (.unitHeaderReadReturn v) s = .next t ∧
      (s.speech.state = .gather → s.speech.phrasePlan ++ [h] <+: t.speech.phrasePlan) ∧
      (s.speech.state ≠ .gather → s.speech.lookAhead ++ [h] <+: t.speech.lookAhead) ∧
      (h = .silence → min 65535 (s.speech.bankFaults.toNat + 1) ≤ t.speech.bankFaults.toNat) ∧
      t.speech.hdrWords = [] ∧ t.speech.plan = s.speech.plan ∧ t.speech.queue = s.speech.queue ∧
      t.engine = s.engine ∧ t.lc = s.lc)

/-- For every calm state: a wanted sample word's bytes that lie inside what is left of the unit become the codes to write,
and a discarded one changes nothing but the bus. BUFFER_WRITE with a full buffer, or in IDLE, GATHER, HANDOFF or
HUSHED, changes nothing (DESIGN CHOICE, log 2); otherwise it writes one sample (DESIGN CHOICE, log 16). In FILL and
PLAY the entry formed from the code in hand at the volume and ramp step joins the tail, or a 0 for a silence inside
the phrase, the underrun flag clears, and codes, spans and the ramp move on by one, to the next span after a span's
last sample; with hush on the entry is discarded. FILL becomes PLAY once the buffer holds min(256, total), and after
the last sample of the phrase the composer is in GAP with the trailing pause to write. In GAP a 0 joins the tail.
Behind the last 0 of a final gap, or the last sample where that gap has no sample, stands the end mark; behind that of
any other trailing pause the next phrase begins: in HANDOFF with an end mark, in FILL or PLAY where, the plan made,
its look-ahead is complete, in GATHER where a unit is still to be read. The last 0 of a switch gap makes the composer
IDLE on an empty queue, and starts a QUEUED head with hush off, with the settings of the active context.
(R167, R168, R169, R176, R178, R179, R180, R183, R194, R195, R196, R201.) -/
def Obligations.SamplesReachBuffer : Prop :=
  ∀ (off : Nat) (v : Word) (s : State), s.calm →
    (∀ o n segs, s.onBus .sample (.sample off) → s.speech.segs = .sound o n :: segs →
      ∃ t, exec (.sampleReadReturn v) s = .next t ∧ t.bare = State.bare { s with
        port := { s.port with busy := none }
        speech := { s.speech with codes := ((wordBytes v).drop (o % 4)).take n } }) ∧
    (∀ b, s.port.busy = some b → b.requester = .sample → b.access = .sample off → b.discard = true →
      ∃ t, exec (.sampleReadReturn v) s = .next t ∧
      t.bare = State.bare { s with port := { s.port with busy := none } }) ∧
    (512 ≤ s.audio.buffer.length ∨ s.speech.state ∈ [ComposerState.idle, .gather, .handoff, .hushed] →
      ∃ t, exec .bufferWrite s = .next t ∧ t.bare = s.bare) ∧
    (let finalMark := fun (a : Audio) (t : State) => t.speech.state = .gap ∧ t.speech.gapLeft = 0 ∧
      t.speech.waitMark = true ∧ t.audio = { a with mark := some a.buffer.length };
    let phrase := s.speech.plan.getD (s.speech.phrase + 1) {};
    let segs' := buildSegs phrase.items s.speech.lookAhead;
    let nextPhrase := fun (a : Audio) (t : State) =>
      t.speech.phrase = s.speech.phrase + 1 ∧ t.speech.last = decide (s.speech.phrase + 2 = s.speech.plan.length) ∧
      (phrase.handoff ≠ none → t.speech.state = .handoff ∧ t.speech.waitMark = true ∧
        t.audio = { a with mark := some a.buffer.length }) ∧
      (phrase.handoff = none → t.audio = a ∧
        (phrase.units.length ≤ s.speech.lookAhead.length → s.speech.planned = true → t.speech.segs = segs' ∧
          t.speech.phrasePlan = s.speech.lookAhead ∧
          t.speech.state = if min 256 (segs'.map Seg.samples).sum ≤ a.buffer.length then .play else .fill) ∧
        ∀ u us, phrase.units.drop s.speech.lookAhead.length = u :: us → badWithoutRead s.audio.directory u = false →
          t.speech.state = .gather ∧ t.speech.phrasePlan = s.speech.lookAhead);
    (s.speech.state ∈ [ComposerState.fill, .play] → s.audio.buffer.length < 512 →
      let put := fun (e : Int) => if s.hush then s.audio else { s.audio with buffer := s.audio.buffer ++ [e], underrun := false };
      let n' := if s.hush then s.audio.buffer.length else s.audio.buffer.length + 1;
      let st := if s.speech.state = .fill ∧ min 256 s.speech.total ≤ n' then .play else s.speech.state;
      let ramp := if s.speech.ramp = 0 ∨ 64 ≤ s.speech.ramp then 0 else s.speech.ramp + 1;
      let go := fun (e : Int) (segs : List Seg) (codes : List Byte) => ∃ t, exec .bufferWrite s = .next t ∧
        t.bare = State.bare { s with
          audio := put e
          speech := { s.speech with
            segs := segs, codes := codes, ramp := ramp, state := st
            pendMirror := s.speech.pendMirror || decide (st ≠ s.speech.state) } };
      let pause := gapSamples s.speech.settings
        (if s.speech.last then s.speech.settings.finalGap else s.speech.settings.phraseGap);
      let lastSample := fun (e : Int) => ∃ t, exec .bufferWrite s = .next t ∧
        (0 < pause → t.speech.state = .gap ∧ t.speech.gap = .trailing ∧ t.speech.gapLeft = pause ∧
          t.speech.segs = [] ∧ t.audio = put e) ∧
        (pause = 0 → s.speech.last = true → finalMark (put e) t) ∧
        (pause = 0 → s.speech.last = false → nextPhrase (put e) t);
      (∀ o n segs c codes, s.speech.segs = .sound o n :: segs → s.speech.codes = c :: codes →
        (1 < n → go (formSample c s.audio.volume s.speech.ramp) (.sound (o + 1) (n - 1) :: segs) codes) ∧
        (n = 1 → segs ≠ [] → go (formSample c s.audio.volume s.speech.ramp) segs [])) ∧
      (∀ n segs, s.speech.segs = .quiet n :: segs →
        (1 < n → go 0 (.quiet (n - 1) :: segs) s.speech.codes) ∧ (n = 1 → segs ≠ [] → go 0 segs s.speech.codes) ∧
        (n = 1 → segs = [] → lastSample 0)) ∧
      (∀ o n c codes, s.speech.segs = [.sound o n] → n = 1 → s.speech.codes = c :: codes →
        lastSample (formSample c s.audio.volume s.speech.ramp))) ∧
    (s.speech.state = .gap → s.audio.buffer.length < 512 → s.speech.waitMark = false →
      let audio := if s.hush then s.audio else { s.audio with buffer := s.audio.buffer ++ [0], underrun := false };
      (1 < s.speech.gapLeft → ∃ t, exec .bufferWrite s = .next t ∧ t.bare = State.bare { s with
        audio := audio, speech := { s.speech with gapLeft := s.speech.gapLeft - 1 } }) ∧
      (s.speech.gapLeft = 1 → s.speech.gap = .trailing → s.speech.last = true →
        ∃ t, exec .bufferWrite s = .next t ∧ t.bare = State.bare { s with
          audio := { audio with mark := some audio.buffer.length }
          speech := { s.speech with gapLeft := 0, waitMark := true } }) ∧
      (s.speech.gapLeft = 1 → s.speech.gap = .trailing → s.speech.last = false →
        ∃ t, exec .bufferWrite s = .next t ∧ nextPhrase audio t) ∧
      (s.speech.gapLeft = 1 → s.speech.gap = .switch → ∃ t, exec .bufferWrite s = .next t ∧
        (s.speech.queue = [] → t.audio = audio ∧ t.speech.state = .idle ∧ t.speech.phrase = 0) ∧
        ∀ u us, s.speech.queue = u :: us → u.playing = false → s.hush = false →
          t.speech.queue = { u with playing := true } :: us ∧ t.speech.settings = SpeechSettings.of s.lc.active ∧
          t.speech.state ≠ .idle ∧ t.audio.buffer = audio.buffer)))

/-- For every calm state with a hand-off record write in progress: a state word REQUESTED sets HANDOFF and arms
HANDOFF_WAIT with the utterance's duration while the record is still REQUESTED with that sequence number, and
otherwise neither; one CANCELLED sets HANDOFF; one NONE, and the card reference word, set nothing. The record itself
is as it was, and where HANDOFF_WAIT is not armed so is everything else but the starting writes' list. For every calm
state with the done read in progress: while the record is REQUESTED, a word whose low byte is the record's sequence
number makes the record NONE with its number kept, HANDOFF_WAIT idle and done-pending clear, and, with a trailing
pause of more than 0 samples, the composer in GAP with that pause to write; any other byte leaves the record REQUESTED
and done-pending clear. A completed composer mirror or counter copy write is struck from the starting writes and
changes nothing else. A done read of a request that is over is disregarded, whatever its word: only done-pending
clears, and with it set and a new request REQUESTED the word is read again (DEDUCED, log 25).
(R10, R82, R183, R185, R189, R181, R184.) -/
def Obligations.HandoffAccesses : Prop :=
  (∀ (ref : Word) (seq : Nat) (part : HandoffPart) (s : State), s.calm →
    let base : State := { s with port := { s.port with busy := none } };
    let strike := fun i => { s.speech with starting := s.speech.starting.filter (· ≠ i) };
    (s.onBus .header (.recWrite (.cardRef ref)) → ∃ t, exec .handoffRecordWriteComplete s = .next t ∧
      t.bare = State.bare { base with speech := strike .recRef }) ∧
    (∀ st, st = .idle ∨ (st = .requested ∧ ¬ (s.speech.record.state = .requested ∧ s.speech.record.seq = seq)) →
      s.onBus .header (.recWrite (.state seq st part)) → ∃ t, exec .handoffRecordWriteComplete s = .next t ∧
      t.bare = State.bare { base with speech := strike .recState }) ∧
    (s.onBus .header (.recWrite (.state seq .cancelled part)) → ∃ t, exec .handoffRecordWriteComplete s = .next t ∧
      t.bare = State.bare { base with
        port := { s.port with busy := none, events := s.port.events ||| Event.handoff.mask }
        speech := strike .recState }) ∧
    (s.onBus .header (.recWrite (.state seq .requested part)) → s.speech.record.state = .requested →
      s.speech.record.seq = seq → ∃ t, exec .handoffRecordWriteComplete s = .next t ∧
      t.port.events = s.port.events ||| Event.handoff.mask ∧ (t.clock.get .handoffWait).state = .running ∧
      (t.clock.get .handoffWait).left = s.speech.settings.handoffWait ∧ t.clock.time = s.clock.time ∧
      t.speech.record = s.speech.record ∧ t.engine = s.engine ∧ t.lc = s.lc ∧ t.audio = s.audio)) ∧
  (∀ (v : Word) (s : State), s.calm →
    let base : State := { s with port := { s.port with busy := none } };
    let pause := gapSamples s.speech.settings
      (if s.speech.last then s.speech.settings.finalGap else s.speech.settings.phraseGap);
    (s.onBus .header .doneRead → s.speech.record.state = .requested → v.toNat % 256 = s.speech.record.seq → 0 < pause →
      ∃ t, exec (.handoffDoneReadReturn v) s = .next t ∧
        t.speech.record = { s.speech.record with state := .idle } ∧ t.speech.donePending = false ∧
        (t.clock.get .handoffWait).state = .idle ∧ t.speech.state = .gap ∧ t.speech.gap = .trailing ∧
        t.speech.gapLeft = pause ∧ t.speech.queue = s.speech.queue ∧ t.speech.plan = s.speech.plan ∧
        t.engine = s.engine ∧ t.lc = s.lc ∧ t.audio = s.audio ∧ t.port.events = s.port.events) ∧
    (s.onBus .header .doneRead → s.speech.record.state = .requested → v.toNat % 256 ≠ s.speech.record.seq →
      ∃ t, exec (.handoffDoneReadReturn v) s = .next t ∧
        t.bare = State.bare { base with speech := { s.speech with donePending := false } }) ∧
    (s.onBus .header .composerMirror → ∃ t, exec .composerWriteComplete s = .next t ∧
      t.bare = State.bare { base with speech := { s.speech with starting := s.speech.starting.filter (· ≠ .mirror) } }) ∧
    (∀ c, s.onBus .header (.scCopy c) → ∃ t, exec .composerWriteComplete s = .next t ∧
      t.bare = State.bare { base with speech := { s.speech with starting := s.speech.starting.filter (· ≠ .copy c) } }) ∧
    (∀ b, s.port.busy = some b → b.requester = .header → b.access = .doneRead → b.discard = true → b.orphan = false →
      ∃ t, exec (.handoffDoneReadReturn v) s = .next t ∧
        t.bare = State.bare { base with speech := { s.speech with donePending := false } } ∧
        (s.speech.donePending = true → s.speech.record.state = .requested →
          t.speech.doneWanted = true ∨ t.port.outstanding .header = some .doneRead)))

/-- For every calm state and any value: a PARKED walker goes to SEEK_LINK; one in SEEK_LINK or SEEK_STATE, with no ABORT
at it, has nudge-pending set, and with one ignores the nudge (DEDUCED, log 38); in any other state the walker is as it
was. With the hand-off record REQUESTED, done-pending is set where a done read is in flight, or is wanted and not yet
issued (DEDUCED, log 25), and is as it was otherwise, and a done read is wanted or in flight afterwards. STATUS,
EVENTS and everything else are as they were.
(R9, R30, R184.) -/
def Obligations.NudgeDelivered : Prop :=
  ∀ (v : Word) (s : State), s.calm → ∃ t, exec (.nudge v) s = .next t ∧
    t.bare = State.bare { s with
      walker :=
        if s.walker.state = .parked then { s.walker with state := .seekLink }
        else if s.walker.state ∈ [WalkerState.seekLink, .seekState] ∧ s.walker.aborting = false then
          { s.walker with nudgePending := true }
        else s.walker
      speech := { s.speech with
        donePending := s.speech.donePending ||
          (decide (s.speech.record.state = .requested) &&
            (s.speech.doneWanted || decide (s.port.outstanding .header = some .doneRead))) } } ∧
    (s.speech.record.state = .requested →
      t.speech.doneWanted = true ∨ t.port.outstanding .header = some .doneRead)

/-- For every calm state with a LETTER at the head of the FIFO the key leaves the FIFO uncounted and the first letter
capture is kept or taken now. LISTENING in WHOLE mode: below 32 letters the trail grows by the letter, record word
0x88 and the trail word of that position wait and one redraw is asked for; at 32 it is as it was; the engine stays in
LISTENING with REPROMPT armed afresh, and with ECHO OFF and room in the trail nothing is spoken. LISTENING or SETTLING
in LIVE mode, and PROMPTING under ALLOW there with no hand-off of the prompt REQUESTED, where the key cuts the prompt,
a PENDING opening prompt becomes CUT with the prompt cut flag, and the letter is taken in LISTENING: where a live
alternate has the letter at the next position the trail grows by it, those alternates alone stay live and slips-here
is 0, with one redraw asked for (DESIGN CHOICE, log 42); with none complete the engine is in LISTENING and SETTLE
idle, with one complete and one longer in SETTLING with SETTLE armed afresh, and with none longer the verdict is
CORRECT with the lowest complete alternate, distance 0, every mark OK, the times and feedback that JudgingResultTaken
says, and a second redraw. Otherwise it is a slip: s and slips-here advance, trail and live set stay, with the engine
in the state that took it, and at SLIPLIMIT slips here slips-here is 0, h advances up to 7, the next position is
revealed, its letter in the lowest live alternate longer than the trail spoken and a redraw asked for. With hush off
and fewer than four utterances queued the next sequence number is that of the letter's echo with ECHO ON (but for the
verdict, whose feedback removes a QUEUED echo), and of BUZZ at a slip and at 32 letters. In every form but the verdict
REPROMPT is armed afresh; tries and replays are as they were.
(R88, R96, R99, R101, R102, R103, R104, R108, R112, R118, R132, R159.) -/
def Obligations.LettersTaken : Prop :=
  (∀ (e : KeyEvent) (rest : List KeyEvent) (s : State), s.calm → s.engine.state = .listening →
    s.lc.active.mode = .whole → s.scanner.fifo = e :: rest → 1 ≤ e.meaning → e.meaning ≤ 27 →
    ∃ t, exec .keyTake s = .next t ∧ t.scanner = { s.scanner with fifo := rest } ∧
      t.engine.trail = (if s.engine.trail.length < 32 then s.engine.trail ++ [e.meaning] else s.engine.trail) ∧
      t.engine.state = .listening ∧ t.engine.firstLetter = some (s.engine.firstLetter.getD s.clock.time) ∧
      t.engine.tryNo = s.engine.tryNo ∧ t.engine.hints = s.engine.hints ∧ t.engine.replays = s.engine.replays ∧
      t.engine.slips = s.engine.slips ∧ t.engine.verdict = s.engine.verdict ∧ t.engine.reprompts = s.engine.reprompts ∧
      (s.engine.trail.length < 32 → 0 ∈ t.engine.words ∧ 5 + s.engine.trail.length / 4 ∈ t.engine.words) ∧
      (t.clock.get .reprompt).left = s.lc.active.reprompt ∧ (t.clock.get .reprompt).state ≠ .idle ∧
      t.walker = s.walker ∧ t.unit = s.unit ∧ t.lc = s.lc ∧ t.clock.time = s.clock.time ∧
      (if s.engine.trail.length < 32 then s.redrawn t else t.line = s.line) ∧
      (s.hush = false → s.speech.queue.length < 4 →
        (s.lc.active.echo = true → s.engine.trail.length < 32 → t.speaks (s.speech.seq + 1) .echo [.letter e.meaning]) ∧
        (32 ≤ s.engine.trail.length → t.speaks (s.speech.seq + 1) .cue [.cue 6])) ∧
      (s.lc.active.echo = false → s.engine.trail.length < 32 → t.audio = s.audio ∧
        { t.speech with recWrites := [], doneWanted := false } = { s.speech with recWrites := [], doneWanted := false })) ∧
  (∀ (e : KeyEvent) (rest : List KeyEvent) (s : State), s.calm →
    (s.engine.state ∈ [AttemptState.listening, .settling] ∨
      (s.engine.state = .prompting ∧ s.promptHandedOff = false ∧ s.lc.active.barge = .allow)) →
    s.lc.active.mode = .live → s.scanner.fifo = e :: rest → 1 ≤ e.meaning → e.meaning ≤ 27 →
    let n := s.engine.trail.length;
    let alt := fun a => s.engine.image.alternates.getD (a - 1) [];
    let echoed := fun t : State => s.lc.active.echo = true → s.hush = false → s.speech.queue.length < 4 →
      t.speaks (s.speech.seq + 1) .echo [.letter e.meaning];
    let fits := s.engine.live.filter fun a => decide (n < (alt a).length ∧ (alt a).getD n 0 = e.meaning);
    ∃ t, exec .keyTake s = .next t ∧ t.scanner = { s.scanner with fifo := rest } ∧
      t.engine.firstLetter = some (s.engine.firstLetter.getD s.clock.time) ∧ t.engine.tryNo = s.engine.tryNo ∧
      t.engine.replays = s.engine.replays ∧ t.unit = s.unit ∧ t.lc = s.lc ∧ t.walker = s.walker ∧
      (s.engine.state = .prompting → t.engine.awaitPrompt = none ∧
        t.engine.opening = (if s.engine.opening = .pending then .cut else s.engine.opening) ∧
        t.engine.promptCut = (s.engine.promptCut || decide (s.engine.opening = .pending))) ∧
      (fits ≠ [] → t.engine.trail = s.engine.trail ++ [e.meaning] ∧ t.engine.live = fits ∧ t.engine.slipsHere = 0 ∧
        t.engine.slips = s.engine.slips ∧ t.engine.hints = s.engine.hints ∧
        0 ∈ t.engine.words ∧ 5 + n / 4 ∈ t.engine.words ∧
        ((∀ a ∈ fits, (alt a).length ≠ n + 1) → t.engine.state = .listening ∧ t.engine.verdict = s.engine.verdict ∧
          (t.clock.get .settle).state = .idle ∧ (t.clock.get .reprompt).left = s.lc.active.reprompt ∧
          (t.clock.get .reprompt).state ≠ .idle ∧ s.redrawn t ∧ echoed t) ∧
        ((∃ a ∈ fits, (alt a).length = n + 1) → (∃ a ∈ fits, n + 1 < (alt a).length) →
          t.engine.state = .settling ∧ t.engine.verdict = s.engine.verdict ∧
          (t.clock.get .settle).left = s.lc.active.settle ∧ (t.clock.get .settle).state ≠ .idle ∧
          (t.clock.get .reprompt).left = s.lc.active.reprompt ∧ (t.clock.get .reprompt).state ≠ .idle ∧
          s.redrawn t ∧ echoed t) ∧
        (∀ a ∈ fits, (alt a).length = n + 1 → (∀ b ∈ fits, (alt b).length ≤ n + 1) →
          (∀ b ∈ fits, (alt b).length = n + 1 → a ≤ b) →
          t.engine.verdict = .correct ∧ t.engine.state = .feedback ∧ t.engine.judged.matched = a ∧
          t.engine.judged.distance = 0 ∧ t.engine.judged.marks = List.replicate (n + 1) .ok ∧
          (∀ m ∈ [TimerName.reprompt, .settle], (t.clock.get m).state = .idle) ∧ s.judged t ∧ s.feedsBack t ∧
          t.line =
            if s.line.card.isSome = true ∧ s.line.closing = false then
              (if s.line.phase = .idle then
                { s.line with
                  due := true, phase := .cell 0
                  cells := lineCells { t.engine with verdict := s.engine.verdict, judged := s.engine.judged } s.lc.active.mode }
              else { s.line with due := true })
            else s.line)) ∧
      (fits = [] → t.engine.trail = s.engine.trail ∧ t.engine.live = s.engine.live ∧
        t.engine.state = (if s.engine.state = .settling then .settling else .listening) ∧
        t.engine.verdict = s.engine.verdict ∧ t.engine.slips = min 255 (s.engine.slips + 1) ∧ 1 ∈ t.engine.words ∧
        (t.clock.get .settle).left = (s.clock.get .settle).left ∧
        (t.clock.get .reprompt).left = s.lc.active.reprompt ∧ (t.clock.get .reprompt).state ≠ .idle ∧
        (s.engine.slipsHere + 1 < s.lc.active.slipLimit → t.engine.slipsHere = s.engine.slipsHere + 1 ∧
          t.engine.hints = s.engine.hints ∧ t.engine.revealed = s.engine.revealed ∧ t.line = s.line) ∧
        (s.hush = false → s.speech.queue.length < 4 → t.speaks (s.speech.seq + 1) .cue [.cue 6]) ∧
        (s.lc.active.slipLimit ≤ s.engine.slipsHere + 1 → t.engine.slipsHere = 0 ∧
          t.engine.hints = min 7 (s.engine.hints + 1) ∧ t.engine.revealed = addOnce (n + 1) s.engine.revealed ∧
          0 ∈ t.engine.words ∧ s.redrawn t ∧
          ∀ a ∈ s.engine.live, n < (alt a).length → (∀ b ∈ s.engine.live, n < (alt b).length → a ≤ b) →
            s.hush = false → s.speech.queue.length < 3 →
            t.speaks (s.speech.seq + 2) .cue [.letter ((alt a).getD n 0)])))

/-- For every calm state with an entry at the head of the FIFO: in IDLE, JUDGING, FEEDBACK and SUSPENDED, in PROMPTING
under HOLD and in PROMPTING while the prompt's hand-off is REQUESTED it stays and nothing changes; in PROMPTING under
DISCARD, and in SPEAKING for a key that is not ENTER, SKIP or REPEAT, it leaves counted in KEYS_DROPPED and nothing
else changes; ENTER in LISTENING in WHOLE mode with letters typed leaves uncounted and submits the trail and
alternates to the busy unit, the engine in JUDGING and REPROMPT idle, and in LIVE mode or with no letter it only
leaves the FIFO, REPROMPT armed afresh; ENTER in SETTLING, with some live alternate complete, ends the try CORRECT
with the lowest complete one, distance 0, every mark OK and the score of R130 with d = 0, final, in FEEDBACK with
REPROMPT and SETTLE idle, with the times, feedback and redraw request that JudgingResultTaken says of a verdict. In
SPEAKING, ENTER and SKIP leave uncounted and end the SAY presentation, its utterance cut and outcome DONE decided (in
that step: DEDUCED, log 10), and REPEAT places the sentence anew, awaited. On an empty FIFO KEY_TAKE changes nothing
(DESIGN CHOICE, log 2).
(R73, R88, R95, R97, R100, R104, R108, R109, R113, R115, R116, R132.) -/
def Obligations.KeysByEngineState : Prop :=
  ∀ s : State,
    (s.scanner.fifo = [] → exec .keyTake s = .next s) ∧
    (∀ e rest, s.scanner.fifo = e :: rest → s.calm →
      (s.engine.state ∈ [AttemptState.idle, .judging, .feedback, .suspended] ∨
          (s.engine.state = .prompting ∧ (s.promptHandedOff = true ∨ s.lc.active.barge = .hold)) →
        ∃ t, exec .keyTake s = .next t ∧ t.bare = s.bare) ∧
      ((s.engine.state = .prompting ∧ s.promptHandedOff = false ∧ s.lc.active.barge = .discard) ∨
          (s.engine.state = .speaking ∧ e.meaning ∉ [28, 31, 32]) →
        ∃ t, exec .keyTake s = .next t ∧
          t.bare = State.bare { s with scanner := ({ s.scanner with fifo := rest } : Scanner).count .dropped 1 }) ∧
      (s.engine.state = .listening → s.lc.active.mode = .whole → s.engine.trail ≠ [] → e.meaning = 28 →
        ∃ t, exec .keyTake s = .next t ∧
          t.bare = State.bare { s with
            scanner := { s.scanner with fifo := rest }
            engine := { s.engine with state := .judging }
            unit := { state := .filling, trail := s.engine.trail, alternates := s.engine.image.alternates }
            clock := { s.clock with reprompt := { s.clock.reprompt with state := .idle, left := 0 } } }) ∧
      (s.engine.state = .listening → (s.lc.active.mode = .live ∨ s.engine.trail = []) → e.meaning = 28 →
        ∃ t, exec .keyTake s = .next t ∧
          t.bare = State.bare { s with
            scanner := { s.scanner with fifo := rest }
            clock := { s.clock with reprompt := {
              state := .running, left := s.lc.active.reprompt
              expired := s.clock.reprompt.expired, stale := s.clock.reprompt.expired } } }) ∧
      (s.engine.state = .settling → e.meaning = 28 → ∀ a ∈ s.engine.live,
        s.engine.altLength a = s.engine.trail.length →
        (∀ b ∈ s.engine.live, s.engine.altLength b = s.engine.trail.length → a ≤ b) →
        ∃ t, exec .keyTake s = .next t ∧ t.scanner = { s.scanner with fifo := rest } ∧ t.engine.verdict = .correct ∧
          t.engine.state = .feedback ∧ t.engine.final = true ∧
          t.engine.judged = {
            matched := a, distance := 0, subs := 0, swaps := 0, omissions := 0, extras := 0
            score := score (s.engine.altLength a) 0 s.engine.hints s.engine.replays
              (if s.lc.active.mode = .live then s.engine.slips else 0) (s.engine.shown.getD (a - 1) []).length
            marks := List.replicate (s.engine.altLength a) .ok } ∧
          t.engine.trail = s.engine.trail ∧ s.judged t ∧ s.feedsBack t ∧ s.redrawn t ∧
          (∀ m ∈ [TimerName.reprompt, .settle], (t.clock.get m).state = .idle) ∧ t.unit = s.unit ∧ t.lc = s.lc) ∧
      (s.engine.state = .speaking → e.meaning ∈ [28, 32] → ∃ t, exec .keyTake s = .next t ∧
        t.scanner = { s.scanner with fifo := rest } ∧ t.engine.state = .idle ∧ t.engine.awaitSay = none ∧
        (∀ n, s.engine.awaitSay = some n → (s.speech.queue.map (·.seq)).Nodup → ∀ u ∈ t.speech.queue, u.seq ≠ n) ∧
        ∀ cur, s.lc.current = some cur → (∀ w, cur.image ≠ .word w) →
          t.lc.queue = decrementDues s.lc.insertions s.lc.queue ∧
          ∃ i, t.lc.ending = some i ∧ i.card = cur.card ∧ i.final = none ∧ i.outcome = .done ∧ i.inserted = false) ∧
      (s.engine.state = .speaking → e.meaning = 31 → ∃ t, exec .keyTake s = .next t ∧
        t.scanner = { s.scanner with fifo := rest } ∧ t.engine.state = .speaking ∧ t.lc = s.lc ∧
        (s.speech.queue.length < 4 → ∃ u ∈ t.speech.queue, some u.seq = t.engine.awaitSay ∧ u.kind = .say ∧
          u.parts = [.sentence s.engine.sayRef false s.engine.card])))

/-- For every calm state whose unit's job is sound (Safety.lean's AlignUnit.inRange, which every step keeps): with the
unit IDLE, ALIGNMENT_COMPLETION changes nothing (DESIGN CHOICE, log 2). With a job, in FILLING or TRACING, the unit is
IDLE with nothing kept. An engine in JUDGING has the job's verdict, marks, counts, distance and matched alternate, the
score of R130 from them, and is in FEEDBACK, with nothing else of the lesson changed; final exactly when the verdict
is CORRECT or the try number is TRIES; the duration the interval from the prompt start and the latency that from the
end of the opening prompt to the first letter, or to now with none, 0 where the prompt did not end by itself; record
words 1 to 4 waiting; one redraw asked for; and the feedback placed and awaited where the queue has fewer than four
entries besides QUEUED echoes and cues. Its parts are those of R113's table: CORRECT PRAISE, or PRAISE_HIGH from a
score of 95; CLOSE ALMOST and TRY_AGAIN, or final ALMOST, LETS_SPELL and the spell-back of the matched alternate;
WRONG TRY_AGAIN, or final LETS_SPELL and that of alternate 1; TIMED_OUT TIME_UP and TRY_AGAIN, or final TIME_UP,
LETS_SPELL and that of alternate 1; GAVE_UP SKIPPED and that of alternate 1. One SUSPENDED out of JUDGING with no
feedback due has the same with the feedback due and not placed; in any other state the engine is as it was.
(R109, R110, R112, R113, R116, R121, R122, R129, R159.) -/
def Obligations.JudgingResultTaken : Prop :=
  (∀ (x : Engine) (j : Judged) (final : Bool),
    let spell := fun a => Part.spell (x.image.alternates.getD (a - 1) []);
    x.feedbackFor .correct final j = [.cue (if 95 ≤ j.score then 2 else 1)] ∧
    x.feedbackFor .close final j = (if final then [.cue 3, .cue 5, spell j.matched] else [.cue 3, .cue 4]) ∧
    x.feedbackFor .wrong final j = (if final then [.cue 5, spell 1] else [.cue 4]) ∧
    x.feedbackFor .timedOut final j = (if final then [.cue 9, .cue 5, spell 1] else [.cue 9, .cue 4]) ∧
    x.feedbackFor .gaveUp final j = [.cue 10, spell 1]) ∧
  ∀ s : State, s.calm → s.unit.inRange →
    (s.unit.busy = false → exec .alignmentCompletion s = .next s) ∧
    (s.unit.busy = true → ∃ t, exec .alignmentCompletion s = .next t ∧ t.unit = {} ∧ t.lc = s.lc ∧
      t.walker = s.walker ∧ t.scanner = s.scanner ∧ t.port.events = s.port.events ∧
      let v := (judge s.unit.trail s.unit.alternates).1;
      let j := (judge s.unit.trail s.unit.alternates).2;
      let sc := score (s.engine.altLength j.matched) j.distance s.engine.hints s.engine.replays
        (if s.lc.active.mode = .live then s.engine.slips else 0) (s.engine.shown.getD (j.matched - 1) []).length;
      (s.engine.state = .judging →
        t.engine.verdict = v ∧ t.engine.judged = { j with score := sc } ∧ t.engine.state = .feedback ∧
        s.judged t ∧ s.feedsBack t ∧ s.redrawn t ∧ t.engine.trail = s.engine.trail) ∧
      (s.engine.state = .suspended → s.engine.left = .judging → s.engine.feedbackDue = false →
        t.engine.verdict = v ∧ t.engine.judged = { j with score := sc } ∧ t.engine.state = .suspended ∧
        t.engine.feedbackDue = true ∧ s.judged t ∧ s.redrawn t ∧
        (s.engine.awaitPrompt = none → t.speech.queue = s.speech.queue)) ∧
      (s.engine.state ≠ .judging →
        ¬ (s.engine.state = .suspended ∧ s.engine.left = .judging ∧ s.engine.feedbackDue = false) → t.engine = s.engine))

/-- Before the final feedback is over and every record word written PRESENTATION_END changes nothing (DESIGN CHOICE, log
2). Otherwise, with a WORD card current and no write block: every entry in the queue loses 1 of its due with a floor
at 0; where review is needed with reviews left and room in the queue the card joins the queue with due min(15, GAPBASE
+ floor(m'/2)) for its new mastery m', its reviews-so-far and presentations advanced, under the advanced insertion
count, and is no longer current; otherwise it stays current with outcome DONE, UNMASTERED or UNQUEUED decided as R138
lists. The engine is IDLE and the open line is to close. The end handed over carries the engine's final try, its try
number, verdict and score with the five words of the attempt record as the engine's values make them, and the card's
image with its new mastery, reviews-so-far and presentations.
(R55, R114, R118, R133, R136, R137, R138, R140, R141, R144, R161.) -/
def Obligations.PresentationEndDecides : Prop :=
  ∀ s : State,
    (s.engine.ending = false ∨ s.engine.words ≠ [] ∨ s.port.free .engine = false →
      exec .presentationEnd s = .next s) ∧
    (∀ cur w, s.engine.ending = true → s.engine.words = [] → s.port.free .engine = true → s.lc.current = some cur →
      cur.image = .word w → s.port.writeBlock = false →
      ∃ t, exec .presentationEnd s = .next t ∧ t.engine = { s.engine with state := .idle, ending := false } ∧
        (s.line.card.isSome = true → t.line = { s.line with closing := true }) ∧
        let f := s.engine.finalTry;
        let ctx := s.lc.active;
        let x := s.engine;
        let final : FinalTry := {
          tryNo := x.tryNo, verdict := x.verdict, score := x.judged.score
          words := [
            packBytes x.tryNo x.trail.length x.hints x.replays,
            packBytes x.slips x.reprompts (x.promptCut.toNat + 2 * x.unspoken.toNat + 4 * x.forcedCut.toNat) x.verdict.code,
            packBytes x.judged.matched x.judged.distance x.judged.score 0,
            packBytes x.judged.subs x.judged.swaps x.judged.omissions x.judged.extras,
            packHalves x.latency x.duration] };
        let m := newMastery ctx.pass w.mastery f;
        let reviews := min w.reviews ctx.reviewMax;
        let needed := ¬ (f.verdict = .correct ∧ f.tryNo = 1 ∧ ctx.pass ≤ f.score);
        let q := decrementDues s.lc.insertions s.lc.queue;
        let entry : ReviewEntry :=
          { card := cur.card, due := min 15 (ctx.gapBase + m / 2), number := s.lc.insertions + 1
            image := { w with mastery := m, reviews := reviews + 1, presentations := min 255 (w.presentations + 1) } };
        if needed ∧ reviews < ctx.reviewMax ∧ s.lc.queue.length < 16 then
          t.lc.queue = insertNew entry q ∧ t.lc.insertions = s.lc.insertions + 1 ∧ t.lc.current = none ∧
          (∃ e, t.lc.ending = some e ∧ e.card = cur.card ∧ e.inserted = true ∧ e.final = some final ∧
            e.outcome = .noOutcome ∧ e.image = .word entry.image)
        else
          t.lc.queue = q ∧ t.lc.insertions = s.lc.insertions ∧ t.lc.current = s.lc.current ∧
          (∃ e, t.lc.ending = some e ∧ e.card = cur.card ∧ e.inserted = false ∧ e.final = some final ∧
            e.image = .word { w with mastery := m, reviews := reviews, presentations := min 255 (w.presentations + 1) } ∧
            e.outcome = if ¬ needed then .done else if ctx.reviewMax ≤ reviews then .unmastered else .unqueued))

/-- For every distance and length the verdict of a judging is CORRECT at distance 0, CLOSE at distance 1 with 4 letters or
more, and WRONG otherwise; for every n at least 1, d, h up to 7, r, s and v up to n, the score is base less penalty
clamped to 0..100, with base floor(100 max(0, n - d) / n) and penalty 6h + 2 min(r, 5) + floor(40 v / n) + 3 min(s,
10), base in 0..100, penalty in 0..122, and score 0 where d is at least n.
(R128, R130.) -/
def Obligations.ScoreAndVerdict : Prop :=
  (∀ d n : Nat, judgeVerdict d n =
      if d = 0 then .correct else if d = 1 ∧ 4 ≤ n then .close else .wrong) ∧
    ∀ n d h r s v : Nat, 1 ≤ n → h ≤ 7 → v ≤ n →
      let base : Nat := 100 * (max 0 ((n : Int) - d)).toNat / n;
      let penalty := 6 * h + 2 * min r 5 + 40 * v / n + 3 * min s 10;
      (score n d h r s v : Int) = max 0 (min 100 ((base : Int) - penalty)) ∧ base ≤ 100 ∧ penalty ≤ 122 ∧
        (n ≤ d → score n d h r s v = 0)

/-- For every trail and alternate, their distance is 0 if and only if they are the same list of letters, and it is at most
the greater of the two lengths; so a CORRECT verdict of a judging means that the trail is one of the alternates, and a
trail that is one of them is judged CORRECT. For every trail a and alternate t: entry (i, 0) is i, entry (0, j) is j,
and every entry (i, j) with i and j at least 1 is the least of extra, omission and diagonal, and of swap where i and j
are at least 2, the last two letters on each side are the same two reversed and they differ. That the condition for a
swap holds against R124's own example is the model's choice (DESIGN CHOICE, log 39).
(R123, R125, R128, R124.) -/
def Obligations.DistanceExact : Prop :=
  ((∀ a t : List Nat, (distance a t = 0 ↔ a = t) ∧ distance a t ≤ max a.length t.length) ∧
    ∀ (a : List Nat) (alts : List (List Nat)), alts ≠ [] → ((judge a alts).1 = .correct ↔ a ∈ alts)) ∧
  (∀ a t : List Nat,
    let d := distanceTable a t;
    (∀ i ≤ a.length, entry d i 0 = i) ∧ (∀ j ≤ t.length, entry d 0 j = j) ∧
    ∀ i j : Nat, i < a.length → j < t.length →
      let least := min (entry d i (j + 1) + 1) (min (entry d (i + 1) j + 1)
        (entry d i j + if a.getD i 0 = t.getD j 0 then 0 else 1));
      entry d (i + 1) (j + 1) =
        if 1 ≤ i ∧ 1 ≤ j ∧ a.getD i 0 = t.getD (j - 1) 0 ∧ a.getD (i - 1) 0 = t.getD j 0 ∧ a.getD i 0 ≠ a.getD (i - 1) 0
        then min least (entry d (i - 1) (j - 1) + 1) else least)

/-- For every trail and nonempty list of alternates, the result of a judging names an alternate whose distance is its
distance and the least of all, with every lower-numbered alternate strictly further; it has one mark for each position
of that alternate, and substitutions, swaps, omissions and extras add up to the distance.
(R121, R125, R126, R127, R128.) -/
def Obligations.MarksAndCounts : Prop :=
  ∀ (a : List Nat) (alts : List (List Nat)), alts ≠ [] →
    let j := (judge a alts).2;
    1 ≤ j.matched ∧ j.matched ≤ alts.length ∧ j.distance = distance a (alts.getD (j.matched - 1) []) ∧
      (∀ t ∈ alts, j.distance ≤ distance a t) ∧
      (∀ k, 1 ≤ k → k < j.matched → j.distance < distance a (alts.getD (k - 1) [])) ∧
      j.marks.length = (alts.getD (j.matched - 1) []).length ∧
      j.subs + j.swaps + j.omissions + j.extras = j.distance

/-- For every queue and insertion count, the due decrement gives a queue with exactly the same entries, each with 1 less
of its due and a floor at 0, in which no entry stands before one with a lower due or, at equal due, before one
inserted earlier below the count. A new entry put into a queue in order of due stands behind every entry of equal or
lower due and before every one of higher due, the others keeping their order. For every PASS, mastery and final try
with a verdict: CORRECT on try 1 with a score of at least PASS gains 2 steps at 95 or more and 1 below, up to 15; any
other CORRECT keeps the mastery; CLOSE loses 1 with a floor at 0; WRONG, TIMED_OUT and GAVE_UP halve it, rounded down.
For GAPBASE 1..8 and mastery up to 15 the gap is min(15, GAPBASE + floor(m'/2)) and lies in 1..15.
(R141, R142, R144, R135, R140.) -/
def Obligations.ReviewQueueAndGap : Prop :=
  ((∀ (now : Word) (q : List ReviewEntry),
      (decrementDues now q).Perm (q.map fun e => { e with due := e.due - 1 }) ∧
      (decrementDues now q).Pairwise fun a b =>
        a.due < b.due ∨ (a.due = b.due ∧ (now - b.number).toNat ≤ (now - a.number).toNat)) ∧
    ∀ (e : ReviewEntry) (q : List ReviewEntry), q.Pairwise (fun a b => a.due ≤ b.due) →
      insertNew e q = q.filter (fun x => decide (x.due ≤ e.due)) ++ e :: q.filter (fun x => decide (e.due < x.due))) ∧
  ((∀ (pass m : Nat) (f : FinalTry),
      (f.verdict = .correct → f.tryNo = 1 → pass ≤ f.score →
        newMastery pass m f = min 15 (m + if 95 ≤ f.score then 2 else 1)) ∧
      (f.verdict = .correct → (f.tryNo ≠ 1 ∨ f.score < pass) → newMastery pass m f = m) ∧
      (f.verdict = .close → (newMastery pass m f : Int) = max 0 ((m : Int) - 1)) ∧
      (f.verdict ∈ [Verdict.wrong, .timedOut, .gaveUp] → newMastery pass m f = m / 2)) ∧
    ∀ gapBase m : Nat, 1 ≤ gapBase → gapBase ≤ 8 → m ≤ 15 →
      reviewGap gapBase m = min 15 (gapBase + m / 2) ∧ 1 ≤ reviewGap gapBase m ∧ reviewGap gapBase m ≤ 15)

/-- For every kind and body: a kind not listed is BAD_KIND; a WORD card with an alternate count not 1..3, or an alternate
1..count with a length not 1..24 or a letter not 1..27, is BAD_SPELLING; one that passes both with a nonzero
pronunciation or sentence reference above 0x3FFA0 is REF_RANGE; a SAY card with a sentence reference 0 or above
0x3FFA0 is REF_RANGE; a CONTEXT card is merged; every other card is ready, an END card as END, a WORD card with as
many alternates as its count. For every directory, staged context and body, the merge takes the 24 fields in the order
of section 1.7: 0xFFFF keeps a field; a numeric one is clamped to its range, REPROMPT first rounded down to a multiple
of 500; BANK is taken, clamped, only where the bank named is present; an enumerated one takes a listed code and is
kept at any other. The clamped flag is set exactly when some field not kept by 0xFFFF came out otherwise than the card
gave it.
(R2, R33, R36, R37.) -/
def Obligations.CardChecksAndMerges : Prop :=
  (∀ (kind : Byte) (body : List Byte),
    let count := byteAt body 0;
    let badSpelling := ¬ (1 ≤ count ∧ count ≤ 3) ∨ ∃ k < count,
      ¬ (1 ≤ byteAt body (0x24 + 28 * k) ∧ byteAt body (0x24 + 28 * k) ≤ 24) ∨
      ∃ i < byteAt body (0x24 + 28 * k), ¬ (1 ≤ byteAt body (0x25 + 28 * k + i) ∧ byteAt body (0x25 + 28 * k + i) ≤ 27);
    let badRef := 0x3FFA0 < (wordAt body 4).toNat ∨ 0x3FFA0 < (wordAt body 8).toNat;
    (kind ∉ [1#8, 2#8, 3#8, 4#8] → checkCard kind body = .reject .badKind) ∧
    (kind = 1 → badSpelling → checkCard kind body = .reject .badSpelling) ∧
    (kind = 1 → ¬ badSpelling → badRef → checkCard kind body = .reject .refRange) ∧
    (kind = 1 → ¬ badSpelling → ¬ badRef → ∃ w, checkCard kind body = .ready (.word w) ∧ w.alternates.length = count) ∧
    (kind = 2 → checkCard kind body = .merge) ∧
    (kind = 3 → checkCard kind body =
      if (wordAt body 0).toNat = 0 ∨ 0x3FFA0 < (wordAt body 0).toNat then .reject .refRange
      else .ready (.say (wordAt body 0))) ∧
    (kind = 4 → checkCard kind body = .ready .endCard)) ∧
  (∀ (dir : List BankEntry) (c : Context) (body : List Byte),
    let f := fun i => halfAt body (2 * i);
    let num := fun (lo hi i old : Nat) => if f i = 0xFFFF then old else max lo (min hi (f i));
    let numAt := fun (lo hi i : Nat) => decide (f i ≠ 0xFFFF ∧ max lo (min hi (f i)) ≠ f i);
    let other := fun (n i : Nat) => decide (f i ≠ 0xFFFF ∧ n ≤ f i);
    let half := max 1000 (min 30000 (f 10 / 500 * 500));
    let bank := if (dir.getD (min 3 (f 21)) {}).present = true then min 3 (f 21) else c.bank;
    mergeContext dir c body =
      ({ mode := if f 0 = 0 then .whole else if f 0 = 1 then .live else c.mode
         tries := num 1 3 1 c.tries, hintMax := num 0 7 2 c.hintMax, slipLimit := num 1 7 3 c.slipLimit
         barge := if f 4 = 0 then .allow else if f 4 = 1 then .hold else if f 4 = 2 then .discard else c.barge
         echo := if f 5 = 0 then false else if f 5 = 1 then true else c.echo
         pattern := if f 6 = 0 then .word else if f 6 = 1 then .wordWord else if f 6 = 2 then .wordSentenceWord
           else c.pattern
         pass := num 0 100 7 c.pass, gapBase := num 1 8 8 c.gapBase, reviewMax := num 1 7 9 c.reviewMax
         reprompt := if f 10 = 0xFFFF then c.reprompt else half
         reprompts := num 0 3 11 c.reprompts, settle := num 200 3000 12 c.settle, rate := num 8 32 13 c.rate
         wordGap := num 0 500 14 c.wordGap, letterGap := num 0 1000 15 c.letterGap
         phraseGap := num 0 1000 16 c.phraseGap, finalGap := num 0 2000 17 c.finalGap
         switchGap := num 0 50 18 c.switchGap, maxPhrase := num 4 64 19 c.maxPhrase, volume := num 0 31 20 c.volume
         bank := if f 21 = 0xFFFF then c.bank else bank
         handoff := if f 22 = 0 then false else if f 22 = 1 then true else c.handoff
         handoffWait := num 500 10000 23 c.handoffWait },
       [other 2 0, numAt 1 3 1, numAt 0 7 2, numAt 1 7 3, other 3 4, other 2 5, other 3 6, numAt 0 100 7, numAt 1 8 8,
         numAt 1 7 9, decide (f 10 ≠ 0xFFFF ∧ half ≠ f 10), numAt 0 3 11, numAt 200 3000 12, numAt 8 32 13, numAt 0 500 14,
         numAt 0 1000 15, numAt 0 1000 16, numAt 0 2000 17, numAt 0 50 18, numAt 4 64 19, numAt 0 31 20,
         decide (f 21 ≠ 0xFFFF ∧ bank ≠ f 21), other 2 22, numAt 500 10000 23].any id))

/-- For every command and state where exec answers a next state: WINDOW changes only by WINDOW_WRITE and POWER_ON_RESET,
and EVENT_ENABLE only by its write and POWER_ON_RESET; DEB, the key map, HUSHFILT and the bank directory only by
SETUP_READ_RETURN and the resets; soft hush only by the hush commands and the resets; the hush filter and the key
states only by MILLISECOND_STEP and the resets, and for the key states RUN; the codec word only by SAMPLE_SLOT and
POWER_ON_RESET; the clock's time advances by 1 at MILLISECOND_STEP and otherwise is as it was, or 0 after RUN and the
resets. For every command other than EVENTS_WRITE, RESET and POWER_ON_RESET, every state and every flag: where exec
answers a next state and the flag is set before, it is set after. So repeated events do not clear one another, and
RUN, ABORT and WINDOW writes leave EVENTS as it is or with further flags set.
(R1, R12, R67, R70, R79, R191, R198, R199, R200, R10, R11.) -/
def Obligations.RegistersOnlyByOwnCommands : Prop :=
  (∀ (c : Instr) (s t : State), exec c s = .next t →
    ((∀ v, c ≠ .windowWrite v) → c ≠ .powerOnReset → t.port.window = s.port.window) ∧
    ((∀ v, c ≠ .eventEnableWrite v) → c ≠ .powerOnReset → t.port.enable = s.port.enable) ∧
    ((∀ v, c ≠ .setupReadReturn v) → c ∉ [Instr.powerOnReset, .reset] →
      t.scanner.deb = s.scanner.deb ∧ t.scanner.keyMap = s.scanner.keyMap ∧ t.audio.hushFilt = s.audio.hushFilt ∧
        t.audio.directory = s.audio.directory) ∧
    (c ∉ [Instr.hushSet, .hushClear, .powerOnReset, .reset] → t.audio.softHush = s.audio.softHush) ∧
    ((∀ k l, c ≠ .millisecondStep k l) → c ∉ [Instr.powerOnReset, .reset] → t.audio.filter = s.audio.filter) ∧
    ((∀ k l, c ≠ .millisecondStep k l) → c ∉ [Instr.powerOnReset, .reset, .run] → t.scanner.keys = s.scanner.keys) ∧
    (c ∉ [Instr.sampleSlot, .powerOnReset] → t.audio.codec = s.audio.codec) ∧
    ((∃ k l, c = .millisecondStep k l) → t.clock.time = s.clock.time + 1) ∧
    ((∀ k l, c ≠ .millisecondStep k l) → t.clock.time = s.clock.time ∨
      (t.clock.time = 0 ∧ c ∈ [Instr.powerOnReset, .reset, .run]))) ∧
  (∀ (c : Instr) (s t : State) (i : Nat), (∀ v, c ≠ .eventsWrite v) → c ∉ [Instr.reset, .powerOnReset] →
    exec c s = .next t → s.port.events.getLsbD i = true → t.port.events.getLsbD i = true)

/-- State.reset lies in every range of the spec's registers and buffers has at most one access per requester and is
settled; it holds no command, and reading STATUS from it gives 0. With the invariants over steps this makes every
state a run reaches sound. The values of the working registers and of COALESCE as copied are the model's (DESIGN
CHOICE, log 23), and so is the empty queue of commands (DESIGN CHOICE, log 29).
(R15, R18, R36, R78, R190, R202.) -/
def Obligations.ResetIsSound : Prop :=
  State.reset.InRange ∧ State.reset.port.oneAccess ∧ State.reset.settled ∧ State.reset.pending = [] ∧ readRegister State.reset 0x0C = 0

/-- For every state in range (State.InRange of Safety.lean), if a step answers a next state that state is in range. What
is in range is this and no more: WINDOW's low 16 bits 0, COALESCE and its counter 0..7; both contexts' fields in the
ranges of R36; the key FIFO at most 16, DEB 2..15, 64 positions whose runs of samples are 1..14, and a key map of 64
bytes; the review queue at most 16 with dues 0..15; mastery 0..15, reviews-so-far 0..7, presentations 0..255 and
alternates of at most 24 letters in the image in the slot, of the current card, of every review entry, of an end under
way and of the engine; no timer with more remaining than it can be armed with (30000, 3000, 10000 and 200 ms); the
alignment job's tables, distances and result those of its copies and an IDLE unit empty; the trail at most 32 with
hints 0..7, replays 0..15, slips 0..255, slips-here 0..6 (at SLIPLIMIT, at most 7, it is 0 again) and reprompts 0..3;
the utterance queue at most 4, its sequence counter, the hand-off counter and the hand-off record's number 0..255, and
the settings of the utterance started last in the ranges of R36; the buffer at most 512 with volume 0..31, HUSHFILT
1..15 and a hush ramp of at most 16.
(Safety.lean: State.InRange, R1, R13, R33, R36, R67, R72, R82, R89, R121, R141, R182.) -/
def Obligations.StepKeepsRanges : Prop :=
  ∀ s t : State, s.InRange → step s = .next t → t.InRange

/-- For every state in which no requester has both an access waiting and one in progress on the bus, if a step answers a
next state the same holds there: a requester issues its next access only after its last has completed, whatever
command comes, and a grant takes nothing while an access is in progress.
(R14, R15.) -/
def Obligations.StepKeepsOneAccess : Prop :=
  ∀ s t : State, s.port.oneAccess → step s = .next t → t.port.oneAccess

/-- For every calm state with a key at the head of the FIFO, which leaves it uncounted. In LISTENING and SETTLING: HINT
with h below HINTMAX reveals the lowest position above the trail of the hint alternate that is neither mask-shown nor
revealed advances h up to 7, speaks its letter and asks for a redraw, and with h at HINTMAX or no such position
changes none of these and NO_MORE is spoken; REPEAT advances r up to 15 and places the prompt of PATTERN, awaited, in
PROMPTING from LISTENING and still in SETTLING there; SKIP ends the try GAVE_UP with the values of R131, final, its
feedback SKIPPED and the spell-back of alternate 1 with the times, redraw and placement that JudgingResultTaken says,
REPROMPT and SETTLE idle; BACK removes the last letter, with a redraw, in WHOLE mode and nothing in LIVE mode. In
PROMPTING under ALLOW, no hand-off of the prompt REQUESTED: a LETTER in WHOLE mode, HINT, and BACK in WHOLE mode cut
the prompt and do in LISTENING, entered with REPROMPT armed, what they do there (the letter is typed, echoed and drawn
while the trail has room, and BUZZ spoken at 32), with the opening prompt PENDING made CUT with the prompt cut flag (a
LETTER in LIVE mode: LettersTaken); ENTER in WHOLE mode with letters submits, and otherwise only leaves the FIFO, as
BACK does in LIVE mode; REPEAT places the same parts anew and advances r with the opening prompt as it was; SKIP cuts
the prompt and ends the try GAVE_UP. What is spoken has the next sequence number, with hush off and fewer than four
utterances queued.
(R96, R99, R100, R101, R105, R106, R107, R108, R110, R113, R131, R159.) -/
def Obligations.HelpKeys : Prop :=
  ∀ (e : KeyEvent) (rest : List KeyEvent) (s : State), s.calm → s.scanner.fifo = e :: rest →
    let n := s.engine.trail.length;
    let alt := fun a => s.engine.image.alternates.getD (a - 1) [];
    let open_ := fun a p => n < p ∧ p ≤ (alt a).length ∧ p ∉ s.engine.shown.getD (a - 1) [] ∧ p ∉ s.engine.revealed;
    let armed := fun t : State => (t.clock.get .reprompt).left = s.lc.active.reprompt ∧ (t.clock.get .reprompt).state ≠ .idle;
    let cutOpening := fun t : State =>
      t.engine.opening = (if s.engine.opening = .pending then .cut else s.engine.opening) ∧
      t.engine.promptCut = (s.engine.promptCut || decide (s.engine.opening = .pending));
    let gaveUp := fun t : State => t.engine.verdict = .gaveUp ∧ t.engine.state = .feedback ∧ t.engine.final = true ∧
      t.engine.judged = { matched := 1, distance := (alt 1).length } ∧
      t.engine.feedbackParts = [.cue 10, .spell (alt 1)] ∧ (∀ k ∈ [1, 2, 3, 4], k ∈ t.engine.words) ∧
      t.engine.trail = s.engine.trail ∧ t.unit = s.unit ∧ s.judged t ∧ s.feedsBack t ∧ s.redrawn t ∧
      (∀ m ∈ [TimerName.reprompt, .settle], (t.clock.get m).state = .idle);
    let spoken := fun (t : State) (k : UtteranceKind) (ps : List Part) =>
      s.hush = false → s.speech.queue.length < 4 → t.speaks (s.speech.seq + 1) k ps;
    let placed := fun (t : State) (ps : List Part) =>
      ∃ u ∈ t.speech.queue, some u.seq = t.engine.awaitPrompt ∧ u.kind = .prompt ∧ u.parts = ps;
    let hinted := fun t : State => ∀ a, (s.lc.active.mode = .whole → a = 1) →
      (s.lc.active.mode = .live → a ∈ s.engine.live ∧ n < (alt a).length ∧
        ∀ b ∈ s.engine.live, n < (alt b).length → a ≤ b) →
      (s.lc.active.hintMax ≤ s.engine.hints ∨ (∀ p, ¬ open_ a p) →
        t.engine.revealed = s.engine.revealed ∧ t.engine.hints = s.engine.hints ∧ t.line = s.line ∧ spoken t .cue [.cue 7]) ∧
      ∀ p, s.engine.hints < s.lc.active.hintMax → open_ a p → (∀ q, open_ a q → p ≤ q) →
        t.engine.revealed = addOnce p s.engine.revealed ∧ t.engine.hints = min 7 (s.engine.hints + 1) ∧
        0 ∈ t.engine.words ∧ s.redrawn t ∧ spoken t .cue [.letter ((alt a).getD (p - 1) 0)];
    (s.engine.state ∈ [AttemptState.listening, .settling] →
      (e.meaning = 30 → ∃ t, exec .keyTake s = .next t ∧ t.scanner = { s.scanner with fifo := rest } ∧ armed t ∧
        t.engine.state = s.engine.state ∧ t.engine.trail = s.engine.trail ∧ t.lc = s.lc ∧ hinted t) ∧
      (e.meaning = 31 → ∃ t, exec .keyTake s = .next t ∧ t.scanner = { s.scanner with fifo := rest } ∧
        t.engine.state = (if s.engine.state = .listening then .prompting else .settling) ∧
        t.engine.replays = min 15 (s.engine.replays + 1) ∧ 0 ∈ t.engine.words ∧ t.engine.trail = s.engine.trail ∧
        t.engine.promptParts = s.engine.patternParts s.lc.active.pattern ∧ t.lc = s.lc ∧
        t.engine.reprompts = s.engine.reprompts ∧
        (s.speech.queue.length < 4 → placed t (s.engine.patternParts s.lc.active.pattern))) ∧
      (e.meaning = 32 → ∃ t, exec .keyTake s = .next t ∧ t.scanner = { s.scanner with fifo := rest } ∧ gaveUp t ∧
        t.lc = s.lc) ∧
      (e.meaning = 29 → ∃ t, exec .keyTake s = .next t ∧ t.scanner = { s.scanner with fifo := rest } ∧ armed t ∧
        t.engine.state = s.engine.state ∧ t.lc = s.lc ∧
        t.engine.trail = (if s.lc.active.mode = .whole then s.engine.trail.dropLast else s.engine.trail) ∧
        (if s.lc.active.mode = .whole ∧ s.engine.trail ≠ [] then
          0 ∈ t.engine.words ∧ 5 + (n - 1) / 4 ∈ t.engine.words ∧ s.redrawn t else t.line = s.line))) ∧
    (s.engine.state = .prompting → s.promptHandedOff = false → s.lc.active.barge = .allow →
      (1 ≤ e.meaning → e.meaning ≤ 27 → s.lc.active.mode = .whole → ∃ t, exec .keyTake s = .next t ∧
        t.scanner = { s.scanner with fifo := rest } ∧ t.engine.state = .listening ∧ armed t ∧ cutOpening t ∧
        t.engine.trail = (if n < 32 then s.engine.trail ++ [e.meaning] else s.engine.trail) ∧
        t.engine.awaitPrompt = none ∧ t.lc = s.lc ∧
        (if n < 32 then 0 ∈ t.engine.words ∧ 5 + n / 4 ∈ t.engine.words ∧ s.redrawn t ∧
            (s.lc.active.echo = true → spoken t .echo [.letter e.meaning])
          else t.line = s.line ∧ spoken t .cue [.cue 6])) ∧
      (e.meaning = 30 → ∃ t, exec .keyTake s = .next t ∧ t.scanner = { s.scanner with fifo := rest } ∧ armed t ∧
        t.engine.state = .listening ∧ cutOpening t ∧ t.engine.awaitPrompt = none ∧ t.engine.trail = s.engine.trail ∧
        t.lc = s.lc ∧ hinted t) ∧
      (e.meaning = 29 → s.lc.active.mode = .whole → ∃ t, exec .keyTake s = .next t ∧
        t.scanner = { s.scanner with fifo := rest } ∧ armed t ∧ t.engine.state = .listening ∧ cutOpening t ∧
        t.engine.awaitPrompt = none ∧ t.lc = s.lc ∧ t.engine.trail = s.engine.trail.dropLast ∧
        (if s.engine.trail ≠ [] then 0 ∈ t.engine.words ∧ 5 + (n - 1) / 4 ∈ t.engine.words ∧ s.redrawn t
          else t.line = s.line)) ∧
      (e.meaning = 28 → s.lc.active.mode = .whole → s.engine.trail ≠ [] → ∃ t, exec .keyTake s = .next t ∧
        t.scanner = { s.scanner with fifo := rest } ∧ t.engine.state = .judging ∧ cutOpening t ∧
        t.unit = { state := .filling, trail := s.engine.trail, alternates := s.engine.image.alternates } ∧
        (t.clock.get .reprompt).state = .idle) ∧
      ((e.meaning = 28 ∧ (s.lc.active.mode = .live ∨ s.engine.trail = [])) ∨ (e.meaning = 29 ∧ s.lc.active.mode = .live) →
        ∃ t, exec .keyTake s = .next t ∧ t.bare = State.bare { s with scanner := { s.scanner with fifo := rest } }) ∧
      (e.meaning = 31 → ∃ t, exec .keyTake s = .next t ∧ t.scanner = { s.scanner with fifo := rest } ∧
        t.engine.state = .prompting ∧ t.engine.replays = min 15 (s.engine.replays + 1) ∧
        t.engine.opening = s.engine.opening ∧ t.engine.promptCut = s.engine.promptCut ∧
        t.engine.promptParts = s.engine.promptParts ∧ (s.speech.queue.length < 4 → placed t s.engine.promptParts)) ∧
      (e.meaning = 32 → ∃ t, exec .keyTake s = .next t ∧ t.scanner = { s.scanner with fifo := rest } ∧ gaveUp t ∧
        cutOpening t))

/-- For every calm state with hush off and an utterance at the head, HUSH_SET: every QUEUED echo and cue behind the head
leaves the queue, counted in ECHO_DROPPED; an echo or cue at the head leaves too, counted; a head not yet started is
held for replay from its start, and a PLAYING prompt, feedback or SAY from its start while its plan is made, from the
phrase gathered, filled, played or handed off, from the next phrase in the pause after one that is not the last, and
from the point kept where it was held already; the phrase plan and the look-ahead are discarded, the plan stays where
it was complete, a REQUESTED hand-off is cancelled, reads in flight are discarded, and the composer is HUSHED, RESTART
keeping its remaining time frozen, or IDLE on an empty queue. A prompt in the pause after its last phrase completes,
and a PROMPTING engine that awaits it is in LISTENING. HUSH_CLEAR with hush going off arms RESTART with 200 ms for a
held utterance unless it keeps the time it was frozen with (DEDUCED, log 22), sets HUSH and asks for the mirror, and
changes nothing else. On an emptied queue RESTART is idle where the head was held already (DEDUCED, log 37).
(R85, R166, R180, R185, R186, R187, R188, R200.) -/
def Obligations.HushHoldsSpeech : Prop :=
  ∀ s : State, s.calm →
    (∀ u us, s.hush = false → s.speech.queue = u :: us → ∃ t, exec .hushSet s = .next t ∧
      let loose := fun v : Utterance => decide (v.playing = false ∧ (v.kind = .echo ∨ v.kind = .cue));
      let rest := us.filter fun v => !loose v;
      let lost := us.length - rest.length;
      let held := fun (q : List Utterance) (r : Replay) (count : Nat) =>
        t.speech.queue = q ∧ t.engine = s.engine ∧ t.lc = { s.lc with pendMirror := true } ∧
        t.port.events = s.port.events ||| Event.hush.mask ∧
        t.speech.echoDropped.toNat = min 65535 (s.speech.echoDropped.toNat + count) ∧
        t.speech.phrasePlan = [] ∧ t.speech.lookAhead = [] ∧
        (if q = [] then t.speech.state = .idle ∧ (t.clock.get .restart).state = .idle
          else t.speech.state = .hushed ∧ t.speech.replay = r ∧
            (t.clock.get .restart).left = (s.clock.get .restart).left ∧
            ((s.clock.get .restart).state ≠ .idle → (t.clock.get .restart).state = .frozen));
      (if s.speech.record.state = .requested then
          t.speech.record = { s.speech.record with state := .cancelled } ∧ (t.clock.get .handoffWait).state = .idle
        else t.speech.record = s.speech.record) ∧
      t.audio.buffer = rampDown 16 s.audio.buffer ∧ t.audio.mark = none ∧
      (∀ b, s.port.busy = some b → b.orphan = false → s.port.waiting.header = none →
        (b.access.isHeaderRead = true → b.requester = .header → ∃ d, t.port.busy = some d ∧ d.discard = true) ∧
        (b.requester = .sample → ∃ d, t.port.busy = some d ∧ d.discard = true)) ∧
      (u.kind = .echo ∨ u.kind = .cue → held rest .start (lost + 1)) ∧
      (u.kind ∉ [UtteranceKind.echo, .cue] → u.playing = false → held (u :: rest) .start lost) ∧
      (u.kind ∉ [UtteranceKind.echo, .cue] → u.playing = true →
        (s.speech.state = .gather → s.speech.planned = false → held (u :: rest) .start lost) ∧
        (s.speech.state = .gather → s.speech.planned = true →
          held (u :: rest) (.phrase s.speech.phrase) lost ∧ t.speech.plan = s.speech.plan) ∧
        (s.speech.state ∈ [ComposerState.fill, .play, .handoff] →
          held (u :: rest) (.phrase s.speech.phrase) lost ∧ (s.speech.planned = true → t.speech.plan = s.speech.plan)) ∧
        (s.speech.state = .gap → s.speech.last = false → held (u :: rest) (.phrase (s.speech.phrase + 1)) lost) ∧
        (s.speech.state = .hushed → held (u :: rest) s.speech.replay lost) ∧
        (s.speech.state = .gap → s.speech.last = true → s.engine.state = .prompting →
          s.engine.awaitPrompt = some u.seq → t.speech.queue = rest ∧ t.engine.state = .listening ∧
          t.engine.awaitPrompt = none ∧ (t.clock.get .reprompt).left = s.lc.active.reprompt))) ∧
    (s.audio.softHush = true → s.audio.filter.on = false → ∃ t, exec .hushClear s = .next t ∧
      t.bare = State.bare { s with
        port := { s.port with refused := false, events := s.port.events ||| Event.hush.mask }
        lc := { s.lc with pendMirror := true }
        audio := { s.audio with softHush := false }
        clock := { s.clock with restart :=
          if s.speech.state = .hushed ∧ s.clock.restart.state = .idle then
            { s.clock.restart with state := .running, left := 200, stale := s.clock.restart.expired }
          else s.clock.restart } })

/-- For every state. A placement of an echo or cue is refused and counted in ECHO_DROPPED under hush and with four entries
none of which is a QUEUED echo; with four entries and a QUEUED echo the youngest of them makes room, counted;
otherwise it joins the tail. A prompt or SAY joins the tail, the youngest QUEUED echo or cue making room among four,
counted. A feedback first removes every QUEUED echo and cue, uncounted. Prompt, SAY and feedback that find four
entries and no room are not taken (DESIGN CHOICE, log 26). An entry taken has the next sequence number modulo 256, the
parts given and the active context's BANK; a refusal takes no number. A cut that names no entry changes nothing, and
one of a QUEUED entry behind the head removes it and nothing else. A cut of a PLAYING head, not held, ramps the buffer
down over 64 samples, cancels a REQUESTED hand-off and removes the entry: then, with its end mark gone and its plan
discarded, the composer is IDLE on an empty queue and otherwise writes the switch gap in GAP; with a gap of 0 samples
and hush off it starts the next head. A cut of a held head leaves the output alone: the next entry is held from its
start with RESTART as it was, or the composer is IDLE and RESTART idle.
(R164, R165, R166, R167, R169, R177, R185, R188, R197.) -/
def Obligations.CutAndPlacement : Prop :=
  (∀ (kind : UtteranceKind) (parts : List Part) (s : State),
    let q := s.speech.queue;
    let r := place kind parts s;
    let strip := fun l : List Utterance => l.map fun v => { v with playing := false };
    let seq := (s.speech.seq + 1) % 256;
    let new : Utterance := { seq := seq, kind := kind, parts := parts, bank := s.lc.active.bank };
    let taken := fun (l : List Utterance) (lost : Nat) => r.2 = some seq ∧ r.1.speech.seq = seq ∧
      strip r.1.speech.queue = strip l ++ [new] ∧
      r.1.speech.echoDropped.toNat = min 65535 (s.speech.echoDropped.toNat + lost);
    let refused := fun lost : Nat => r.2 = none ∧ r.1.speech.seq = s.speech.seq ∧ r.1.speech.queue = q ∧
      r.1.speech.echoDropped.toNat = min 65535 (s.speech.echoDropped.toNat + lost);
    let echo := fun v : Utterance => v.playing = false ∧ v.kind = .echo;
    let loose := fun v : Utterance => v.playing = false ∧ (v.kind = .echo ∨ v.kind = .cue);
    (kind ∈ [UtteranceKind.echo, .cue] →
      (s.hush = true → refused 1) ∧ (s.hush = false → q.length < 4 → taken q 0) ∧
      (∀ a v b, s.hush = false → 4 ≤ q.length → q = a ++ v :: b → echo v → (∀ x ∈ b, ¬ echo x) → taken (a ++ b) 1) ∧
      (s.hush = false → 4 ≤ q.length → (∀ x ∈ q, ¬ echo x) → refused 1)) ∧
    (kind ∈ [UtteranceKind.prompt, .say] →
      (q.length < 4 → taken q 0) ∧
      (∀ a v b, 4 ≤ q.length → q = a ++ v :: b → loose v → (∀ x ∈ b, ¬ loose x) → taken (a ++ b) 1) ∧
      (4 ≤ q.length → (∀ x ∈ q, ¬ loose x) → refused 0)) ∧
    (kind = .feedback →
      let kept := q.filter fun v => decide (¬ loose v);
      (kept.length < 4 → taken kept 0) ∧ (4 ≤ kept.length → refused 0))) ∧
  ∀ (seq : Nat) (s : State),
    let t := cut seq s;
    ((∀ v ∈ s.speech.queue, v.seq ≠ seq) → t = s) ∧
    ∀ u us, s.speech.queue = u :: us →
      (u.seq ≠ seq → t = { s with speech := { s.speech with queue := u :: us.filter fun v => decide (v.seq ≠ seq) } }) ∧
      (u.seq = seq → s.speech.state = .hushed → t.audio = s.audio ∧ t.engine = s.engine ∧ t.speech.queue = us ∧
        (us = [] → t.speech.state = .idle ∧ (t.clock.get .restart).state = .idle) ∧
        (us ≠ [] → t.speech.state = .hushed ∧ t.speech.replay = .start ∧ t.clock = s.clock)) ∧
      (u.seq = seq → s.speech.state ≠ .hushed → u.playing = true →
        t.audio.buffer = rampDown 64 s.audio.buffer ∧
        (us = [] ∨ 0 < gapSamples s.speech.settings s.speech.settings.switchGap →
          t.audio.mark = none ∧ t.speech.plan = [] ∧ t.lc = s.lc ∧ t.engine = s.engine) ∧
        (us = [] → t.speech.queue = [] ∧ t.speech.state = .idle ∧ t.speech.phrase = 0 ∧ t.speech.last = false) ∧
        (us ≠ [] → 0 < gapSamples s.speech.settings s.speech.settings.switchGap →
          t.speech.queue = us ∧ t.speech.state = .gap ∧ t.speech.gap = .switch ∧
          t.speech.gapLeft = gapSamples s.speech.settings s.speech.settings.switchGap) ∧
        (s.speech.record.state = .requested → t.speech.record = { s.speech.record with state := .cancelled } ∧
          (t.clock.get .handoffWait).state = .idle)) ∧
      (∀ v vs, u.seq = seq → s.speech.state ≠ .hushed → u.playing = true → us = v :: vs → v.playing = false →
        s.hush = false → gapSamples s.speech.settings s.speech.settings.switchGap = 0 →
        t.speech.queue = { v with playing := true } :: vs ∧ t.speech.settings = SpeechSettings.of s.lc.active)

/-- For every bank and byte: 0x00..0x7C is a unit of that bank, 0x7D and 0x7E a word gap, 0x7F the end, and 0x80..0xFF
with the next byte, whatever it holds (DEDUCED, log 13), a unit of the bank in bits 6..5 numbered by bits 4..0 and
that byte; a long reference cut off by the end of the bytes gives nothing. The words are the runs of units between
gaps, none of them empty. The phrases of a part keep its units in order; a word joins the open phrase behind a word
gap as long as the unit count stays at or below MAXPHRASE and otherwise begins the next; a word longer than MAXPHRASE
is split, its first MAXPHRASE units a phrase and the rest going on as the start of the next, and each such word is one
forced cut; every phrase holds at least 1 and at most MAXPHRASE units and no hand-off. A gap of ms milliseconds is
floor(ms 256 / RATE) samples. A part's form at its utterance's start: a WORD is handed off where the pronunciation is
the host's or the reference is 0, and a SENTENCE where it is the host's, with HANDOFF ON, and replaced by WORD_MISSING
with HANDOFF OFF; otherwise its string is read. A SPELL is its letters' name units with LETTERGAP between them, a
letter its name unit and a cue its cue unit, of the utterance's bank.
(R164, R170, R171, R172, R174, R175, R177, R182.) -/
def Obligations.StringsAndPhrases : Prop :=
  (∀ (bank : Nat) (b c : Byte) (rest : List Byte),
    decodeString bank [] = ([], false) ∧
    (b.toNat ≤ 0x7C → decodeString bank (b :: rest) =
      (.unit ⟨bank, b.toNat⟩ :: (decodeString bank rest).1, (decodeString bank rest).2)) ∧
    (b = 0x7D ∨ b = 0x7E → decodeString bank (b :: rest) = (.gap :: (decodeString bank rest).1, (decodeString bank rest).2)) ∧
    (b = 0x7F → decodeString bank (b :: rest) = ([], true)) ∧
    (0x80 ≤ b.toNat → decodeString bank (b :: c :: rest) =
      (.unit ⟨b.toNat / 32 % 4, 256 * (b.toNat % 32) + c.toNat⟩ :: (decodeString bank rest).1, (decodeString bank rest).2)) ∧
    (0x80 ≤ b.toNat → decodeString bank [b] = ([], false))) ∧
  (tokenWords [] = [] ∧ (∀ us : List UnitRef, us ≠ [] → tokenWords (us.map .unit) = [us]) ∧
    (∀ ts ts' : List Token, tokenWords (ts ++ .gap :: ts') = tokenWords ts ++ tokenWords ts') ∧
    ∀ ts : List Token, ∀ w ∈ tokenWords ts, w ≠ []) ∧
  (∀ (m gap : Nat) (words : List (List UnitRef)) (w : List UnitRef), 1 ≤ m → (∀ x ∈ words, x ≠ []) → w ≠ [] →
    let phrases := fun ws => (partPhrases m gap ws).1;
    ((phrases words).flatMap Phrase.units = words.flatten ∧
      (∀ p ∈ phrases words, 1 ≤ p.units.length ∧ p.units.length ≤ m ∧ p.handoff = none) ∧
      (partPhrases m gap words).2 = words.countP fun x => decide (m < x.length)) ∧
    phrases [] = [] ∧ (w.length ≤ m → phrases [w] = [{ items := w.map .unit }]) ∧
    (m < w.length → phrases [w] = { items := (w.take m).map .unit } :: phrases [w.drop m]) ∧
    ∀ front last, phrases words = front ++ [last] →
      phrases (words ++ [w]) =
        if last.units.length + w.length ≤ m then front ++ [{ items := last.items ++ .gap gap :: w.map .unit }]
        else front ++ last :: phrases [w]) ∧
  (∀ (c : SpeechSettings) (ms : Nat), 8 ≤ c.rate →
    gapSamples c ms * c.rate ≤ ms * 256 ∧ ms * 256 < (gapSamples c ms + 1) * c.rate) ∧
  ∀ (dir : List BankEntry) (bank : Nat) (c : SpeechSettings) (ref card : Word) (kindHandoff : Bool) (letters : List Nat) (n : Nat),
    let letter := fun l : Nat => (⟨bank, (dir.getD bank {}).letters.getD (l - 1) 0⟩ : UnitRef);
    let cue := fun k : Nat => (⟨bank, (dir.getD bank {}).cues.getD (k - 1) 0⟩ : UnitRef);
    let form := partForm dir bank c;
    (form (.word ref kindHandoff card) =
        if kindHandoff ∨ ref = 0 then (if c.handoff then .handoff card .word else .replaced) else .string ref.toNat) ∧
      (form (.sentence ref kindHandoff card) =
        if kindHandoff then (if c.handoff then .handoff card .sentence else .replaced) else .string ref.toNat) ∧
      form (.spell letters) = .words (letters.map fun l => [letter l]) c.letterGap ∧
      form (.letter n) = .words [[letter n]] 0 ∧ form (.cue n) = .words [[cue n]] 0 ∧
      (1 ≤ c.maxPhrase → form (.word ref kindHandoff card) = .replaced →
        partPlan dir bank c (.word ref kindHandoff card) = [{ items := [.unit (cue 8)] }]) ∧
      (1 ≤ c.maxPhrase → partPlan dir bank c (.cue n) = [{ items := [.unit (cue n)] }]) ∧
      (c.handoff = true → partPlan dir bank c (.sentence ref true card) = [{ handoff := some (card, .sentence) }])

/-- For every WORD image and length n, position p is mask-shown exactly when it lies in 1..n and: the mode is ALL; or SPAN
and p is among the first min(L, n) or the last min(T, n) positions; or WINDOWS and some window with its on flag set,
its start clamped to 1..24, covers p. In a review presentation no position of any alternate is shown. For every
engine, the display alternate is 1 in WHOLE mode before the verdict and after TIMED_OUT and GAVE_UP, the least live
one in LIVE mode before it, and otherwise the matched one. Before the verdict cell k is TYPED with the trail's letter
up to its length, then SHOWN, REVEALED or HIDDEN up to the alternate's length, a letter only in the first two, and
EMPTY above; after it the alternate's letters stand in the state of their marks, or REVEALED after TIMED_OUT and
GAVE_UP, and EMPTY above.
(R143, R153, R154, R155, R156, R157.) -/
def Obligations.LineAndMask : Prop :=
  (∀ (w : WordImage) (n p : Nat),
    (p ∈ maskPositions w n ↔ 1 ≤ p ∧ p ≤ n ∧
      (w.maskMode = .all ∨
        (w.maskMode = .span ∧ (p ≤ min w.lead n ∨ n + 1 ≤ p + min w.trail n)) ∨
        (w.maskMode = .windows ∧ ∃ i ∈ w.windows, i.on = true ∧
          max 1 (min 24 i.start) ≤ p ∧ p < max 1 (min 24 i.start) + i.width))) ∧
    ∀ x ∈ shownSets w true, x = []) ∧
  ∀ (e : Engine) (mode : Mode) (a : Nat),
    (e.verdict = .noVerdict → mode = .whole → a = 1) →
    (e.verdict = .noVerdict → mode = .live → a ∈ e.live ∧ ∀ b ∈ e.live, a ≤ b) →
    (e.verdict ∈ [Verdict.correct, .close, .wrong] → a = e.judged.matched) →
    (e.verdict ∈ [Verdict.timedOut, .gaveUp] → a = 1) →
    let alt := e.image.alternates.getD (a - 1) [];
    (lineCells e mode).length = 32 ∧ ∀ k, 1 ≤ k → k ≤ 32 →
      (lineCells e mode).getD (k - 1) {} =
        if e.verdict = .noVerdict then
          (if k ≤ e.trail.length then { letter := e.trail.getD (k - 1) 0, state := .typed }
          else if alt.length < k then { letter := 0, state := .empty }
          else if k ∈ e.shown.getD (a - 1) [] then { letter := alt.getD (k - 1) 0, state := .shown }
          else if k ∈ e.revealed then { letter := alt.getD (k - 1) 0, state := .revealed }
          else { letter := 0, state := .hidden })
        else if alt.length < k then { letter := 0, state := .empty }
        else
          { letter := alt.getD (k - 1) 0
            state := if e.verdict ∈ [Verdict.timedOut, .gaveUp] then .revealed
              else match e.judged.marks.getD (k - 1) .ok with
                | .ok => .ok | .sub => .sub | .missing => .missing | .swap => .swap }

/-- For every state: a read goes to the offset it names, the done read to 0x188, the pass slot read to 0x18C, setup word k
to 4k. The walker writes the header word TAKEN or RETIRED at its card and the outcome word at card + 8; the Lesson
Controller the header word with its state at the card, the outcome word at card + 8, the record words 0..4 of the
final try and the mastery word at card + 0x30 of the ending card, the lesson mirror at 0x194, the current card
reference at 0x19C, the counter copies at their offsets and the fault record from 0x1D0; the engine record word k at
0x88 + 4k, with its trail in words 5..12; the Line Builder the generation at card + 0xBC and cells at 0xC0 + 4w; the
scanner the pass slot's time at 0x190 and its key position with valid 1 at 0x18C; the composer the hand-off record at
0x1E0 and 0x1DC and its mirror at 0x198. Each word carries the values as they stand at the grant, its bytes those of
the field tables, the codes those of section 1.7, and ignored bytes 0; a record write of a try dropped while it waits
carries the content it had (DEDUCED, log 21). Which access a requester issues next: NextAccesses.
(R5, R6, R19, R20, R24, R45, R74, R118, R133, R136, R151, R183.) -/
def Obligations.WindowAccesses : Prop :=
  (∀ a b c d : Nat, (packBytes a b c d).toNat = a % 256 + 256 * (b % 256) + 65536 * (c % 256) + 16777216 * (d % 256) ∧
      (packHalves a b).toNat = a % 65536 + 65536 * (b % 65536)) ∧
  ([CardState.free, .posted, .taken, .active, .review, .retired].map CardState.code = [0, 1, 2, 3, 4, 5] ∧
    [CardOutcome.noOutcome, .done, .unmastered, .unqueued, .rejected, .applied, .ended, .abandoned].map CardOutcome.code
      = [0, 1, 2, 3, 4, 5, 6, 7] ∧
    [Detail.noDetail, .badKind, .badSpelling, .refRange].map Detail.code = [0, 1, 2, 3] ∧
    [LessonState.stopped, .starting, .waiting, .presenting, .paused, .ended, .faulted].map LessonState.code
      = [0, 1, 2, 3, 4, 5, 6] ∧
    [FaultCode.noFault, .noBank, .badSetup, .linkRange, .busError].map FaultCode.code = [0, 1, 2, 3, 4] ∧
    [Verdict.noVerdict, .correct, .close, .wrong, .timedOut, .gaveUp].map Verdict.code = [0, 1, 2, 3, 4, 5] ∧
    [CellState.empty, .hidden, .shown, .revealed, .typed, .ok, .sub, .missing, .swap].map CellState.code
      = [0, 1, 2, 3, 4, 5, 6, 7, 8] ∧
    [ComposerState.idle, .gather, .fill, .play, .gap, .handoff, .hushed].map ComposerState.code = [0, 1, 2, 3, 4, 5, 6] ∧
    [HandoffState.idle, .requested, .cancelled].map HandoffState.code = [0, 1, 2] ∧
    [HandoffPart.word, .sentence].map HandoffPart.code = [0, 1]) ∧
  ∀ (s : State) (frozen : Option Word) (discard chain : Bool),
    let bus := fun a => accessBus s { access := a, discard := discard, frozen := frozen };
    let header := fun (c : CardId) (st : CardState) => packBytes st.code c.kind.toNat c.tag.toNat (c.tag.toNat / 256);
    let mirror := fun st : LessonState => packBytes st.code (s.contextStaged.toNat + 2 * s.hush.toNat) s.lc.queue.length 0;
    let ref := s.walker.card.ref.toNat;
    let x := s.engine;
    let line := (s.line.card.getD 0).toNat;
    (∀ o, bus (.link o) = (o, none) ∧ bus (.cardState o) = (o, none) ∧ bus (.body o) = (o, none) ∧
      bus (.string o) = (o, none) ∧ bus (.unitWord o) = (o, none) ∧ bus (.sample o) = (o, none) ∧
      bus .doneRead = (0x188, none) ∧ bus .passRead = (0x18C, none) ∧ bus (.lc (.setup o) chain) = (4 * o, none)) ∧
    (bus .takenWrite = (ref, some (header s.walker.card .taken)) ∧
      bus .walkerRetired = (ref, some (header s.walker.card .retired)) ∧
      bus .walkerOutcome =
        (ref + 8, some (packBytes s.walker.outcome.code s.walker.detail.code s.walker.clamped.toNat 0))) ∧
    (∀ (c : CardId) (st : CardState) (r v : Word) (oc : CardOutcome) (k : Nat),
      bus (.lc (.header c st) chain) = (c.ref.toNat, some (header c st)) ∧
      bus (.lc (.outcome r oc) chain) = (r.toNat + 8, some (packBytes oc.code 0 0 0)) ∧
      bus (.lc (.currentRef r) chain) = (0x19C, some r) ∧ bus (.lc (.faultWord k v) chain) = (0x1D0 + 4 * k, some v)) ∧
    (bus (.lc .mirror chain) = (0x194, some (mirror s.lc.lesson)) ∧
      bus (.lc .mirrorStopped chain) = (0x194, some (mirror .stopped))) ∧
    ([LcCounter.taken, .retired, .judged, .rejected, .unqueued, .underruns].map (fun c => bus (.lc (.copy c) chain)) =
        [(0x1A0, some s.lc.taken), (0x1A4, some s.lc.retired), (0x1A8, some s.lc.judged), (0x1AC, some s.lc.rejected),
          (0x1C8, some (s.lc.unqueued.setWidth 32)), (0x1BC, some (s.audio.underruns.setWidth 32))] ∧
      [KsCounter.dropped, .blocked, .passDropped].map (fun c => bus (.ksCopy c)) =
        [(0x1B0, some (s.scanner.dropped.setWidth 32)), (0x1B4, some (s.scanner.blocked.setWidth 32)),
          (0x1B8, some (s.scanner.passDropped.setWidth 32))] ∧
      [ScCounter.bankFaults, .handoffLapsed, .echoDropped].map (fun c => bus (.scCopy c)) =
        [(0x1C0, some (s.speech.bankFaults.setWidth 32)), (0x1C4, some (s.speech.handoffLapsed.setWidth 32)),
          (0x1CC, some (s.speech.echoDropped.setWidth 32))]) ∧
    (∀ i, s.lc.ending = some i →
      (∀ f k, i.final = some f → k < 5 →
        bus (.lc (.endRecord k) chain) = (i.card.ref.toNat + 0x88 + 4 * k, some (f.words.getD k 0))) ∧
      ∀ w, i.image = .word w →
        bus (.lc .mastery chain) = (i.card.ref.toNat + 0x30, some (packBytes w.mastery w.reviews w.presentations 0))) ∧
    (∀ c : Word, frozen = none →
      [0, 1, 2, 3, 4].map (fun k => bus (.record c k)) =
        [(c.toNat + 0x88, some (packBytes x.tryNo x.trail.length x.hints x.replays)),
          (c.toNat + 0x8C, some (packBytes x.slips x.reprompts
            (x.promptCut.toNat + 2 * x.unspoken.toNat + 4 * x.forcedCut.toNat) x.verdict.code)),
          (c.toNat + 0x90, some (packBytes x.judged.matched x.judged.distance x.judged.score 0)),
          (c.toNat + 0x94, some (packBytes x.judged.subs x.judged.swaps x.judged.omissions x.judged.extras)),
          (c.toNat + 0x98, some (packHalves x.latency x.duration))] ∧
      ∀ k < 8, bus (.record c (5 + k)) = (c.toNat + 0x9C + 4 * k, some (packBytes (x.trail.getD (4 * k) 0)
        (x.trail.getD (4 * k + 1) 0) (x.trail.getD (4 * k + 2) 0) (x.trail.getD (4 * k + 3) 0)))) ∧
    (∀ (c v : Word) (k : Nat), frozen = some v → (bus (.record c k)).2 = some v) ∧
    (bus .lineGen = (line + 0xBC, some s.line.gen) ∧ ∀ w, bus (.lineCell w) =
      (line + 0xC0 + 4 * w, some (packBytes (s.line.cells.getD (2 * w) {}).letter (s.line.cells.getD (2 * w) {}).state.code
        (s.line.cells.getD (2 * w + 1) {}).letter (s.line.cells.getD (2 * w + 1) {}).state.code))) ∧
    (∀ (e : KeyEvent) (st : PassStage), s.scanner.passOp = some (e, st) →
      bus .passTime = (0x190, some e.time) ∧ bus .passSlot = (0x18C, some (packBytes e.pos 1 0 0))) ∧
    (∀ (r : Word) (n : Nat) (st : HandoffState) (p : HandoffPart),
      bus (.recWrite (.cardRef r)) = (0x1E0, some r) ∧
      bus (.recWrite (.state n st p)) = (0x1DC, some (packBytes n st.code p.code 0))) ∧
    bus .composerMirror =
      (0x198, some (packBytes s.speech.state.code s.speech.phrase s.speech.last.toNat 0))

/-- For every state, the next access of each requester is this. Walker: the link word at the cursor in SEEK_LINK, the
header word of the named card in SEEK_STATE, the TAKEN write in CLAIM, in COPY the body words ascending from card +
0x10 (none once the card is handed over), in RETIRE the outcome word and then the RETIRED write, none in OFF, PARKED
and HOLD. Lesson Controller: the first access of its chain, then the mirror, then one pending copy in the order of
R45. Engine: the lowest waiting record word, none while IDLE. Line: what its phase says. Scanner: the stage of the
pass operation under way, then one pending copy in the order of R76. Header: the first waiting hand-off record write,
then a wanted done read, then the next word of the string being read (the word at the reference and the ones after
it), then the next word of the unit table entry of the first unresolved unit, then the composer mirror, then one
pending copy in the order of R181. Sample: the aligned word at the span in FILL or PLAY with no code left. For every
step that answers a next state: an access waiting after it where none of that requester waited before is that next
access, wanted and with its content open, the header requester's but for the record write or done read that issuing it
took from those waiting. That a reading of samples begins only with no code left is the model's choice (DESIGN CHOICE,
log 15).
(R15, R27, R28, R29, R31, R32, R34, R45, R74, R76, R118, R181.) -/
def Obligations.NextAccesses : Prop :=
  (∀ s : State,
    nextAccess s .walker = (match s.walker.state with
      | .seekLink => some (.link s.walker.cursor)
      | .seekState => some (.cardState s.walker.card.ref.toNat)
      | .claim => some .takenWrite
      | .copy => if s.walker.handed then none else some (.body (s.walker.card.ref.toNat + 0x10 + 4 * s.walker.body.length))
      | .retire => if s.walker.outcomeDone then some .walkerRetired else some .walkerOutcome
      | .off => none
      | .parked => none
      | .hold => none) ∧
    ((∀ it rest, s.lc.chain = it :: rest → nextAccess s .lesson = some (.lc it.access true)) ∧
      (s.lc.chain = [] → s.lc.pendMirror = true → nextAccess s .lesson = some (.lc .mirror false)) ∧
      (s.lc.chain = [] → s.lc.pendMirror = false → nextAccess s .lesson =
        ([LcCounter.taken, .retired, .judged, .rejected, .unqueued, .underruns].find? (· ∈ s.lc.pendCopies)).map
          fun c => .lc (.copy c) false)) ∧
    ((s.engine.state = .idle ∨ s.engine.words = [] → nextAccess s .engine = none) ∧
      ∀ k ∈ s.engine.words, s.engine.state ≠ .idle → (∀ x ∈ s.engine.words, k ≤ x) →
        nextAccess s .engine = some (.record s.engine.card k)) ∧
    nextAccess s .line = (match s.line.phase with
      | .idle => none
      | .generationZero => some .lineGen
      | .cell w => some (.lineCell w)
      | .generation => some .lineGen) ∧
    nextAccess s .scanner = (match s.scanner.passOp with
      | some (_, .read) => some .passRead
      | some (_, .time) => some .passTime
      | some (_, .slot) => some .passSlot
      | none => ([KsCounter.dropped, .blocked, .passDropped].find? (· ∈ s.scanner.pendCopies)).map .ksCopy) ∧
    ((∀ r rs, s.speech.recWrites = r :: rs → nextAccess s .header = some (.recWrite r)) ∧
      (s.speech.recWrites = [] → s.speech.doneWanted = true → nextAccess s .header = some .doneRead) ∧
      (s.speech.recWrites = [] → s.speech.doneWanted = false →
        (∀ ref, s.speech.strRef = some ref → nextAccess s .header =
          some (.string (4 * ((ref + s.speech.strBytes.length) / 4)))) ∧
        (s.speech.strRef = none →
          (∀ u us, s.speech.unresolved = u :: us → nextAccess s .header =
            some (.unitWord (4 * (((s.audio.directory.getD u.bank {}).table.toNat + 8 * u.num) / 4)
              + 4 * s.speech.hdrWords.length))) ∧
          (s.speech.unresolved = [] → nextAccess s .header =
            if s.speech.pendMirror then some .composerMirror
            else ([ScCounter.bankFaults, .handoffLapsed, .echoDropped].find? (· ∈ s.speech.pendCopies)).map .scCopy)))) ∧
    ((∀ off left segs, s.speech.segs = .sound off left :: segs → s.speech.state ∈ [ComposerState.fill, .play] →
        s.speech.codes = [] → nextAccess s .sample = some (.sample (4 * (off / 4)))) ∧
      (s.speech.state ∉ [ComposerState.fill, .play] ∨ s.speech.codes ≠ [] ∨ s.speech.segs = [] ∨
          (∃ n segs, s.speech.segs = .quiet n :: segs) → nextAccess s .sample = none))) ∧
  (∀ (s t : State) (r : Requester) (q : Request), step s = .next t → s.port.waiting.get r = none →
    t.port.waiting.get r = some q → q.discard = false ∧ q.frozen = none ∧
    (r ≠ .header → nextAccess t r = some q.access) ∧
    (r = .header → (∃ w, q.access = .recWrite w) ∨
      (t.speech.recWrites = [] ∧ t.speech.doneWanted = false ∧
        (q.access = .doneRead ∨ nextAccess t .header = some q.access))))

/-- For every settled state (State.settled of Safety.lean), if a step answers a next state that state is settled, but for
a WINDOW_WRITE that lifts a write block, which issues nothing; and from every state, settled or not, a BUS_GRANT,
SAMPLE_SLOT, BUFFER_WRITE, HUSH_SET, HUSH_CLEAR, NUDGE, MILLISECOND_STEP and accepted RUN leads to a settled one.
Settled means: an armed timer is RUNNING while its condition of R85 holds and FROZEN while it does not (REPROMPT
frozen while the lesson is PAUSED, effective hush is on, an utterance stands in the queue or a hand-off is REQUESTED;
SETTLE only while the lesson is PAUSED, so through speech and hush it counts; HANDOFF_WAIT while no hand-off is
REQUESTED; RESTART while hush is on); with no write block a requester with no access waiting or in progress has none
to issue (NextAccesses says which); and under the write block no access waits.
(R15, R16, R85.) -/
def Obligations.StepLeavesSettled : Prop :=
  (∀ s t : State, s.settled →
    (s.port.writeBlock = true → ∀ v rest, s.pending ≠ .windowWrite v :: rest) → step s = .next t → t.settled) ∧
  (∀ (s t : State) (c : Instr) (rest : List Instr), s.pending = c :: rest →
    (c ∈ [Instr.busGrant, .sampleSlot, .bufferWrite, .hushSet, .hushClear] ∨ (∃ v, c = .nudge v) ∨
      (∃ keys line, c = .millisecondStep keys line) ∨
      (c = .run ∧ s.lc.lesson ∈ [LessonState.stopped, .ended, .faulted])) →
    step s = .next t → t.settled)
end

