-- ==== Sys2Proof/Laws/State.lean ====
section
/-! SUPPORT. One lemma for each field and each update of a block. -/
namespace Sys2Proof.Machine
namespace State

@[simp] theorem onPort_pending (f : Port → Port) (s : State) : (s.onPort f).pending = s.pending := rfl
@[simp] theorem onPort_port (f : Port → Port) (s : State) : (s.onPort f).port = f s.port := rfl
@[simp] theorem onPort_walker (f : Port → Port) (s : State) : (s.onPort f).walker = s.walker := rfl
@[simp] theorem onPort_lc (f : Port → Port) (s : State) : (s.onPort f).lc = s.lc := rfl
@[simp] theorem onPort_scanner (f : Port → Port) (s : State) : (s.onPort f).scanner = s.scanner := rfl
@[simp] theorem onPort_clock (f : Port → Port) (s : State) : (s.onPort f).clock = s.clock := rfl
@[simp] theorem onPort_engine (f : Port → Port) (s : State) : (s.onPort f).engine = s.engine := rfl
@[simp] theorem onPort_unit (f : Port → Port) (s : State) : (s.onPort f).unit = s.unit := rfl
@[simp] theorem onPort_line (f : Port → Port) (s : State) : (s.onPort f).line = s.line := rfl
@[simp] theorem onPort_speech (f : Port → Port) (s : State) : (s.onPort f).speech = s.speech := rfl
@[simp] theorem onPort_audio (f : Port → Port) (s : State) : (s.onPort f).audio = s.audio := rfl

@[simp] theorem onWalker_pending (f : Walker → Walker) (s : State) : (s.onWalker f).pending = s.pending := rfl
@[simp] theorem onWalker_port (f : Walker → Walker) (s : State) : (s.onWalker f).port = s.port := rfl
@[simp] theorem onWalker_walker (f : Walker → Walker) (s : State) : (s.onWalker f).walker = f s.walker := rfl
@[simp] theorem onWalker_lc (f : Walker → Walker) (s : State) : (s.onWalker f).lc = s.lc := rfl
@[simp] theorem onWalker_scanner (f : Walker → Walker) (s : State) : (s.onWalker f).scanner = s.scanner := rfl
@[simp] theorem onWalker_clock (f : Walker → Walker) (s : State) : (s.onWalker f).clock = s.clock := rfl
@[simp] theorem onWalker_engine (f : Walker → Walker) (s : State) : (s.onWalker f).engine = s.engine := rfl
@[simp] theorem onWalker_unit (f : Walker → Walker) (s : State) : (s.onWalker f).unit = s.unit := rfl
@[simp] theorem onWalker_line (f : Walker → Walker) (s : State) : (s.onWalker f).line = s.line := rfl
@[simp] theorem onWalker_speech (f : Walker → Walker) (s : State) : (s.onWalker f).speech = s.speech := rfl
@[simp] theorem onWalker_audio (f : Walker → Walker) (s : State) : (s.onWalker f).audio = s.audio := rfl

@[simp] theorem onLc_pending (f : Lc → Lc) (s : State) : (s.onLc f).pending = s.pending := rfl
@[simp] theorem onLc_port (f : Lc → Lc) (s : State) : (s.onLc f).port = s.port := rfl
@[simp] theorem onLc_walker (f : Lc → Lc) (s : State) : (s.onLc f).walker = s.walker := rfl
@[simp] theorem onLc_lc (f : Lc → Lc) (s : State) : (s.onLc f).lc = f s.lc := rfl
@[simp] theorem onLc_scanner (f : Lc → Lc) (s : State) : (s.onLc f).scanner = s.scanner := rfl
@[simp] theorem onLc_clock (f : Lc → Lc) (s : State) : (s.onLc f).clock = s.clock := rfl
@[simp] theorem onLc_engine (f : Lc → Lc) (s : State) : (s.onLc f).engine = s.engine := rfl
@[simp] theorem onLc_unit (f : Lc → Lc) (s : State) : (s.onLc f).unit = s.unit := rfl
@[simp] theorem onLc_line (f : Lc → Lc) (s : State) : (s.onLc f).line = s.line := rfl
@[simp] theorem onLc_speech (f : Lc → Lc) (s : State) : (s.onLc f).speech = s.speech := rfl
@[simp] theorem onLc_audio (f : Lc → Lc) (s : State) : (s.onLc f).audio = s.audio := rfl

@[simp] theorem onScanner_pending (f : Scanner → Scanner) (s : State) : (s.onScanner f).pending = s.pending := rfl
@[simp] theorem onScanner_port (f : Scanner → Scanner) (s : State) : (s.onScanner f).port = s.port := rfl
@[simp] theorem onScanner_walker (f : Scanner → Scanner) (s : State) : (s.onScanner f).walker = s.walker := rfl
@[simp] theorem onScanner_lc (f : Scanner → Scanner) (s : State) : (s.onScanner f).lc = s.lc := rfl
@[simp] theorem onScanner_scanner (f : Scanner → Scanner) (s : State) : (s.onScanner f).scanner = f s.scanner := rfl
@[simp] theorem onScanner_clock (f : Scanner → Scanner) (s : State) : (s.onScanner f).clock = s.clock := rfl
@[simp] theorem onScanner_engine (f : Scanner → Scanner) (s : State) : (s.onScanner f).engine = s.engine := rfl
@[simp] theorem onScanner_unit (f : Scanner → Scanner) (s : State) : (s.onScanner f).unit = s.unit := rfl
@[simp] theorem onScanner_line (f : Scanner → Scanner) (s : State) : (s.onScanner f).line = s.line := rfl
@[simp] theorem onScanner_speech (f : Scanner → Scanner) (s : State) : (s.onScanner f).speech = s.speech := rfl
@[simp] theorem onScanner_audio (f : Scanner → Scanner) (s : State) : (s.onScanner f).audio = s.audio := rfl

@[simp] theorem onClock_pending (f : Clock → Clock) (s : State) : (s.onClock f).pending = s.pending := rfl
@[simp] theorem onClock_port (f : Clock → Clock) (s : State) : (s.onClock f).port = s.port := rfl
@[simp] theorem onClock_walker (f : Clock → Clock) (s : State) : (s.onClock f).walker = s.walker := rfl
@[simp] theorem onClock_lc (f : Clock → Clock) (s : State) : (s.onClock f).lc = s.lc := rfl
@[simp] theorem onClock_scanner (f : Clock → Clock) (s : State) : (s.onClock f).scanner = s.scanner := rfl
@[simp] theorem onClock_clock (f : Clock → Clock) (s : State) : (s.onClock f).clock = f s.clock := rfl
@[simp] theorem onClock_engine (f : Clock → Clock) (s : State) : (s.onClock f).engine = s.engine := rfl
@[simp] theorem onClock_unit (f : Clock → Clock) (s : State) : (s.onClock f).unit = s.unit := rfl
@[simp] theorem onClock_line (f : Clock → Clock) (s : State) : (s.onClock f).line = s.line := rfl
@[simp] theorem onClock_speech (f : Clock → Clock) (s : State) : (s.onClock f).speech = s.speech := rfl
@[simp] theorem onClock_audio (f : Clock → Clock) (s : State) : (s.onClock f).audio = s.audio := rfl

@[simp] theorem onEngine_pending (f : Engine → Engine) (s : State) : (s.onEngine f).pending = s.pending := rfl
@[simp] theorem onEngine_port (f : Engine → Engine) (s : State) : (s.onEngine f).port = s.port := rfl
@[simp] theorem onEngine_walker (f : Engine → Engine) (s : State) : (s.onEngine f).walker = s.walker := rfl
@[simp] theorem onEngine_lc (f : Engine → Engine) (s : State) : (s.onEngine f).lc = s.lc := rfl
@[simp] theorem onEngine_scanner (f : Engine → Engine) (s : State) : (s.onEngine f).scanner = s.scanner := rfl
@[simp] theorem onEngine_clock (f : Engine → Engine) (s : State) : (s.onEngine f).clock = s.clock := rfl
@[simp] theorem onEngine_engine (f : Engine → Engine) (s : State) : (s.onEngine f).engine = f s.engine := rfl
@[simp] theorem onEngine_unit (f : Engine → Engine) (s : State) : (s.onEngine f).unit = s.unit := rfl
@[simp] theorem onEngine_line (f : Engine → Engine) (s : State) : (s.onEngine f).line = s.line := rfl
@[simp] theorem onEngine_speech (f : Engine → Engine) (s : State) : (s.onEngine f).speech = s.speech := rfl
@[simp] theorem onEngine_audio (f : Engine → Engine) (s : State) : (s.onEngine f).audio = s.audio := rfl

@[simp] theorem onUnit_pending (f : AlignUnit → AlignUnit) (s : State) : (s.onUnit f).pending = s.pending := rfl
@[simp] theorem onUnit_port (f : AlignUnit → AlignUnit) (s : State) : (s.onUnit f).port = s.port := rfl
@[simp] theorem onUnit_walker (f : AlignUnit → AlignUnit) (s : State) : (s.onUnit f).walker = s.walker := rfl
@[simp] theorem onUnit_lc (f : AlignUnit → AlignUnit) (s : State) : (s.onUnit f).lc = s.lc := rfl
@[simp] theorem onUnit_scanner (f : AlignUnit → AlignUnit) (s : State) : (s.onUnit f).scanner = s.scanner := rfl
@[simp] theorem onUnit_clock (f : AlignUnit → AlignUnit) (s : State) : (s.onUnit f).clock = s.clock := rfl
@[simp] theorem onUnit_engine (f : AlignUnit → AlignUnit) (s : State) : (s.onUnit f).engine = s.engine := rfl
@[simp] theorem onUnit_unit (f : AlignUnit → AlignUnit) (s : State) : (s.onUnit f).unit = f s.unit := rfl
@[simp] theorem onUnit_line (f : AlignUnit → AlignUnit) (s : State) : (s.onUnit f).line = s.line := rfl
@[simp] theorem onUnit_speech (f : AlignUnit → AlignUnit) (s : State) : (s.onUnit f).speech = s.speech := rfl
@[simp] theorem onUnit_audio (f : AlignUnit → AlignUnit) (s : State) : (s.onUnit f).audio = s.audio := rfl

@[simp] theorem onLine_pending (f : Line → Line) (s : State) : (s.onLine f).pending = s.pending := rfl
@[simp] theorem onLine_port (f : Line → Line) (s : State) : (s.onLine f).port = s.port := rfl
@[simp] theorem onLine_walker (f : Line → Line) (s : State) : (s.onLine f).walker = s.walker := rfl
@[simp] theorem onLine_lc (f : Line → Line) (s : State) : (s.onLine f).lc = s.lc := rfl
@[simp] theorem onLine_scanner (f : Line → Line) (s : State) : (s.onLine f).scanner = s.scanner := rfl
@[simp] theorem onLine_clock (f : Line → Line) (s : State) : (s.onLine f).clock = s.clock := rfl
@[simp] theorem onLine_engine (f : Line → Line) (s : State) : (s.onLine f).engine = s.engine := rfl
@[simp] theorem onLine_unit (f : Line → Line) (s : State) : (s.onLine f).unit = s.unit := rfl
@[simp] theorem onLine_line (f : Line → Line) (s : State) : (s.onLine f).line = f s.line := rfl
@[simp] theorem onLine_speech (f : Line → Line) (s : State) : (s.onLine f).speech = s.speech := rfl
@[simp] theorem onLine_audio (f : Line → Line) (s : State) : (s.onLine f).audio = s.audio := rfl

@[simp] theorem onSpeech_pending (f : Speech → Speech) (s : State) : (s.onSpeech f).pending = s.pending := rfl
@[simp] theorem onSpeech_port (f : Speech → Speech) (s : State) : (s.onSpeech f).port = s.port := rfl
@[simp] theorem onSpeech_walker (f : Speech → Speech) (s : State) : (s.onSpeech f).walker = s.walker := rfl
@[simp] theorem onSpeech_lc (f : Speech → Speech) (s : State) : (s.onSpeech f).lc = s.lc := rfl
@[simp] theorem onSpeech_scanner (f : Speech → Speech) (s : State) : (s.onSpeech f).scanner = s.scanner := rfl
@[simp] theorem onSpeech_clock (f : Speech → Speech) (s : State) : (s.onSpeech f).clock = s.clock := rfl
@[simp] theorem onSpeech_engine (f : Speech → Speech) (s : State) : (s.onSpeech f).engine = s.engine := rfl
@[simp] theorem onSpeech_unit (f : Speech → Speech) (s : State) : (s.onSpeech f).unit = s.unit := rfl
@[simp] theorem onSpeech_line (f : Speech → Speech) (s : State) : (s.onSpeech f).line = s.line := rfl
@[simp] theorem onSpeech_speech (f : Speech → Speech) (s : State) : (s.onSpeech f).speech = f s.speech := rfl
@[simp] theorem onSpeech_audio (f : Speech → Speech) (s : State) : (s.onSpeech f).audio = s.audio := rfl

@[simp] theorem onAudio_pending (f : Audio → Audio) (s : State) : (s.onAudio f).pending = s.pending := rfl
@[simp] theorem onAudio_port (f : Audio → Audio) (s : State) : (s.onAudio f).port = s.port := rfl
@[simp] theorem onAudio_walker (f : Audio → Audio) (s : State) : (s.onAudio f).walker = s.walker := rfl
@[simp] theorem onAudio_lc (f : Audio → Audio) (s : State) : (s.onAudio f).lc = s.lc := rfl
@[simp] theorem onAudio_scanner (f : Audio → Audio) (s : State) : (s.onAudio f).scanner = s.scanner := rfl
@[simp] theorem onAudio_clock (f : Audio → Audio) (s : State) : (s.onAudio f).clock = s.clock := rfl
@[simp] theorem onAudio_engine (f : Audio → Audio) (s : State) : (s.onAudio f).engine = s.engine := rfl
@[simp] theorem onAudio_unit (f : Audio → Audio) (s : State) : (s.onAudio f).unit = s.unit := rfl
@[simp] theorem onAudio_line (f : Audio → Audio) (s : State) : (s.onAudio f).line = s.line := rfl
@[simp] theorem onAudio_speech (f : Audio → Audio) (s : State) : (s.onAudio f).speech = s.speech := rfl
@[simp] theorem onAudio_audio (f : Audio → Audio) (s : State) : (s.onAudio f).audio = f s.audio := rfl

end State
end Sys2Proof.Machine
end

