-- ==== Sys2Proof/Laws/Settle.lean ====
section
/-! SUPPORT. What follows every command on chip changes nothing of the bare state, where the Lesson Controller has nothing to
begin and no write block holds, and leaves every timer under its condition and every access issued that can be. -/
namespace Sys2Proof.Machine

/-! ### Slots -/

@[simp] theorem Waiting.get_put (w : Waiting) (r : Requester) (q : Option Request) : (w.put r q).get r = q := by
  cases r <;> rfl

theorem Waiting.get_put_ne (w : Waiting) {r r' : Requester} (q : Option Request) (h : r' ≠ r) :
    (w.put r q).get r' = w.get r' := by
  cases r <;> cases r' <;> first | rfl | exact absurd rfl h

@[simp] theorem Port.issue_waiting_get (p : Port) (r : Requester) (a : Access) :
    (p.issue r a).waiting.get r = some { access := a } := Waiting.get_put ..

@[simp] theorem Port.issue_busy (p : Port) (r : Requester) (a : Access) : (p.issue r a).busy = p.busy := rfl

/-! ### Timers -/

@[simp] theorem Timer.bare_retime (t : Timer) (r : Bool) : (t.retime r).bare = t.bare := by
  unfold Timer.retime Timer.bare
  cases t with
  | mk st left e stale => cases st <;> cases r <;> rfl

@[simp] theorem bare_retime (s : State) : (retime s).bare = s.bare := by
  simp [retime, State.bare, State.onClock, Clock.bare]

/-! ### Issuing -/

theorem bare_issue (s : State) (r : Requester) (a : Access) : (s.onPort (·.issue r a)).bare = s.bare := rfl

theorem bare_takeIssued (a : Access) (s : State) : (takeIssued a s).bare = s.bare := by
  cases a <;> rfl

theorem bare_issueFor (r : Requester) (s : State) : (issueFor r s).bare = s.bare := by
  unfold issueFor
  split
  · split
    · rw [bare_takeIssued, bare_issue]
    · rfl
  · rfl

theorem bare_issueAll (s : State) (h : s.port.writeBlock = false) : (issueAll s).bare = s.bare := by
  simp [issueAll, h, bare_issueFor]

/-! ### Settling -/

theorem lcAdvance_of_quiet (s : State) (h : s.lcQuiet) : lcAdvance s = s := by
  unfold lcAdvance
  rcases h with h | ⟨h, hc⟩
  · simp [h]
  · by_cases h0 : s.lc.chain = [] <;> simp [h0, h, hc]

/-- A settled calm state is the same bare state. -/
theorem bare_settle (s : State) (h : s.calm) : (settle s).bare = s.bare := by
  unfold settle
  rw [bare_issueAll, bare_retime, lcAdvance_of_quiet s h.2]
  rw [lcAdvance_of_quiet s h.2]
  exact h.1

/-! ### What settling leaves -/

theorem Port.free_issue_ne (p : Port) {r r' : Requester} (a : Access) (h : r ≠ r') : (p.issue r' a).free r = p.free r := by
  simp only [Port.free, Port.issue, Waiting.get_put_ne _ _ h]; rfl

theorem Port.free_issue (p : Port) (r : Requester) (a : Access) : (p.issue r a).free r = false := by
  simp [Port.free]

theorem port_takeIssued (a : Access) (s : State) : (takeIssued a s).port = s.port := by cases a <;> rfl

/-- Issuing touches nothing the other requesters' accesses depend on. -/
theorem nextAccess_issueFor_ne (s : State) {r r' : Requester} (h : r ≠ r') :
    nextAccess (issueFor r' s) r = nextAccess s r := by
  unfold issueFor
  split
  · split
    · rename_i a ha
      cases r <;> cases r' <;> first
        | exact absurd rfl h
        | (cases a <;> first | rfl | (exfalso; revert ha; simp only [nextAccess, nextWalker, nextLesson, nextEngine, nextLine, nextScanner, nextSample]; (repeat' split) <;> simp [*]))
    · rfl
  · rfl

/-- A requester that is free has nothing to issue. -/
def State.hasIssued (s : State) (r : Requester) : Prop := s.port.free r = true → nextAccess s r = none

theorem hasIssued_issueFor (r : Requester) (s : State) : (issueFor r s).hasIssued r := by
  unfold State.hasIssued issueFor
  split
  · split
    · intro hf; rw [port_takeIssued] at hf
      exact absurd hf (by simp [State.onPort, Port.free_issue])
    · rename_i h; exact fun _ => h
  · rename_i h; exact fun hf => absurd hf h

theorem free_issueFor_ne (s : State) {r r' : Requester} (h : r ≠ r') : (issueFor r' s).port.free r = s.port.free r := by
  unfold issueFor
  split
  · split
    · rw [port_takeIssued]; exact Port.free_issue_ne _ _ h
    · rfl
  · rfl

theorem hasIssued_issueFor_of (r' : Requester) (s : State) {r : Requester} (h : s.hasIssued r) : (issueFor r' s).hasIssued r := by
  by_cases e : r = r'
  · subst e; exact hasIssued_issueFor r s
  · unfold State.hasIssued; rw [free_issueFor_ne s e, nextAccess_issueFor_ne s e]; exact h

theorem writeBlock_issueFor (r : Requester) (s : State) : (issueFor r s).port.writeBlock = s.port.writeBlock := by
  unfold issueFor
  split
  · split
    · rw [port_takeIssued]; rfl
    · rfl
  · rfl

theorem waiting_discardAll (s : State) : (discardAll s).port.waiting = {} := rfl
theorem writeBlock_discardAll (s : State) : (discardAll s).port.writeBlock = s.port.writeBlock := rfl

/-- Every access that can be issued is (R15), and under the write block none waits (R16). -/
theorem accessesIssued_issueAll (s : State) : (issueAll s).accessesIssued := by
  unfold issueAll
  split
  · rename_i h
    exact ⟨fun hb => absurd hb (by rw [writeBlock_discardAll, h]; decide), fun _ => waiting_discardAll s⟩
  · rename_i h
    refine ⟨fun _ r => ?_, fun hb => absurd hb (by simp only [writeBlock_issueFor]; simpa using h)⟩
    cases r with
    | sample => exact hasIssued_issueFor _ _
    | header => exact hasIssued_issueFor_of _ _ (hasIssued_issueFor _ _)
    | scanner => exact hasIssued_issueFor_of _ _ (hasIssued_issueFor_of _ _ (hasIssued_issueFor _ _))
    | line => exact hasIssued_issueFor_of _ _ (hasIssued_issueFor_of _ _ (hasIssued_issueFor_of _ _ (hasIssued_issueFor _ _)))
    | engine =>
      exact hasIssued_issueFor_of _ _ (hasIssued_issueFor_of _ _ (hasIssued_issueFor_of _ _ (hasIssued_issueFor_of _ _ (hasIssued_issueFor _ _))))
    | lesson =>
      exact hasIssued_issueFor_of _ _ (hasIssued_issueFor_of _ _ (hasIssued_issueFor_of _ _ (hasIssued_issueFor_of _ _ (hasIssued_issueFor_of _ _
        (hasIssued_issueFor _ _)))))
    | walker =>
      exact hasIssued_issueFor_of _ _ (hasIssued_issueFor_of _ _ (hasIssued_issueFor_of _ _ (hasIssued_issueFor_of _ _ (hasIssued_issueFor_of _ _
        (hasIssued_issueFor_of _ _ (hasIssued_issueFor _ _))))))

/-- What the conditions of the timers and the timers are (R85). -/
def State.conditions (s : State) : Clock × LessonState × Audio × List Utterance × HandoffRecord :=
  (s.clock, s.lc.lesson, s.audio, s.speech.queue, s.speech.record)

theorem conditions_issueFor (r : Requester) (s : State) : (issueFor r s).conditions = s.conditions := by
  unfold issueFor
  split
  · split
    · rename_i a _; cases a <;> rfl
    · rfl
  · rfl

theorem conditions_discardAll (s : State) : (discardAll s).conditions = s.conditions := rfl

theorem conditions_issueAll (s : State) : (issueAll s).conditions = s.conditions := by
  unfold issueAll
  split
  · exact conditions_discardAll s
  · simp only [conditions_issueFor]

theorem timersFollow_of_conditions {s t : State} (h : t.conditions = s.conditions) (hs : s.timersFollow) : t.timersFollow := by
  simp only [State.conditions, Prod.mk.injEq] at h
  obtain ⟨hc, hl, ha, hq, hr⟩ := h
  unfold State.timersFollow State.hush
  rw [hc, hl, ha, hq, hr]
  exact hs

theorem Timer.follows_retime (t : Timer) (b : Bool) (p : Prop) (h : b = true ↔ p) : (t.retime b).follows p := by
  intro hn
  unfold Timer.retime at *
  cases ht : t.state <;> simp [ht] at hn ⊢ <;> cases b <;> simp_all

theorem timersFollow_retime (s : State) : (retime s).timersFollow := by
  refine ⟨?_, ?_, ?_, ?_⟩ <;> refine Timer.follows_retime _ _ _ ?_ <;>
    simp [State.runs, Speech.isIdle, retime, State.onClock, State.hush, and_assoc]

/-- What follows every command leaves a settled state, whatever it started from. -/
theorem settled_settle (s : State) : (settle s).settled :=
  ⟨timersFollow_of_conditions (conditions_issueAll _) (timersFollow_retime _), accessesIssued_issueAll _⟩

theorem lcAdvance_of_endWaits (s : State) (h : s.endWaits) : lcAdvance s = s := by
  obtain ⟨hc, he, hw⟩ := h
  unfold lcAdvance startEndChain
  simp only [hc, he]
  cases hx : s.lc.ending with
  | none => simp
  | some e => rcases hw e hx with h | h <;> simp [h]

/-- A settled steady state is the same bare state. -/
theorem bare_settle_of_steady (s : State) (h : s.steady) : (settle s).bare = s.bare := by
  have ha : lcAdvance s = s := h.2.elim (lcAdvance_of_quiet s) (lcAdvance_of_endWaits s)
  unfold settle
  rw [bare_issueAll, bare_retime, ha]
  rw [ha]; exact h.1
/-! ### Completions -/

theorem Port.completing_of_onBus {s : State} {r : Requester} {a : Access} {test : Access → Bool}
    (h : s.onBus r a) (ht : test a = true) :
    ∃ b, s.port.completing r test = some b ∧ s.port.busy = some b ∧ b.requester = r ∧ b.access = a ∧ b.discard = false
      ∧ b.orphan = false := by
  obtain ⟨b, hb, hr, ha, hd, ho⟩ := h
  exact ⟨b, by simp [Port.completing, hb, hr, ha, ht], hb, hr, ha, hd, ho⟩

/-- What a completion event does when its access is in progress. -/
theorem complete_of_onBus {s : State} {r : Requester} {a : Access} {test : Access → Bool}
    (f : BusAccess → State → State) (h : s.onBus r a) (ht : test a = true) :
    ∃ b, b.access = a ∧ b.discard = false ∧ b.requester = r ∧
      complete r test f s = settle (f b (s.onPort Port.release)) := by
  obtain ⟨b, hc, _, hr, ha, hd, ho⟩ := Port.completing_of_onBus h ht
  exact ⟨b, ha, hd, hr, by simp [complete, hc, ho]⟩

/-- A completion with no such access in progress is no event of the part (DESIGN CHOICE, log 2). -/
theorem complete_none {s : State} {r : Requester} {test : Access → Bool} (f : BusAccess → State → State)
    (h : s.port.completing r test = none) : complete r test f s = s := by
  simp [complete, h]

end Sys2Proof.Machine
end

