-- ==== Sys2Proof/Laws/EventFlags.lean ====
section
/-! SUPPORT. The flags of EVENTS over the part's on-chip work: one lemma for each operation, which leaves a flag as it is or
may only set it (R10). -/
set_option linter.unusedSimpArgs false

namespace Sys2Proof.Machine
/-- A flag of EVENTS. -/
def State.flag (s : State) (i : Nat) : Bool := s.port.events.getLsbD i
@[simp] theorem flag_onWalker (i : Nat) (f : Walker → Walker) (s : State) : (s.onWalker f).flag i = s.flag i := rfl
@[simp] theorem flag_onLc (i : Nat) (f : Lc → Lc) (s : State) : (s.onLc f).flag i = s.flag i := rfl
@[simp] theorem flag_onScanner (i : Nat) (f : Scanner → Scanner) (s : State) : (s.onScanner f).flag i = s.flag i := rfl
@[simp] theorem flag_onClock (i : Nat) (f : Clock → Clock) (s : State) : (s.onClock f).flag i = s.flag i := rfl
@[simp] theorem flag_onEngine (i : Nat) (f : Engine → Engine) (s : State) : (s.onEngine f).flag i = s.flag i := rfl
@[simp] theorem flag_onUnit (i : Nat) (f : AlignUnit → AlignUnit) (s : State) : (s.onUnit f).flag i = s.flag i := rfl
@[simp] theorem flag_onLine (i : Nat) (f : Line → Line) (s : State) : (s.onLine f).flag i = s.flag i := rfl
@[simp] theorem flag_onSpeech (i : Nat) (f : Speech → Speech) (s : State) : (s.onSpeech f).flag i = s.flag i := rfl
@[simp] theorem flag_onAudio (i : Nat) (f : Audio → Audio) (s : State) : (s.onAudio f).flag i = s.flag i := rfl
@[simp] theorem flag_onPort (i : Nat) (f : Port → Port) (s : State) (h : (f s.port).events = s.port.events) :
    (s.onPort f).flag i = s.flag i := by simp [State.flag, h]
theorem flag_pending (i : Nat) (q : List Instr) (s : State) : State.flag { s with pending := q } i = s.flag i := rfl
@[simp] theorem Port.discard_events (p : Port) (r : Requester) : (p.discard r).events = p.events := rfl
@[simp] theorem flag_setEvent (i : Nat) (e : Event) (s : State) (h : s.flag i = true) : (setEvent e s).flag i = true := by
  simp only [State.flag, setEvent, State.onPort_port] at *
  simp [h]


@[simp] theorem flag_showResult (i : Nat) (refused : Bool) (s : State) : (showResult refused s).flag i = s.flag i := by
  unfold showResult
  try dsimp only
  (repeat' split) <;> (try simp_all) <;> (repeat' split) <;> (try simp_all)

@[simp] theorem flag_coalesceEnd (i : Nat) (s : State) (h : s.flag i = true) : (coalesceEnd s).flag i = true := by
  unfold coalesceEnd
  try dsimp only
  (repeat' split) <;> (try simp_all) <;> (repeat' split) <;> (try simp_all)

@[simp] theorem flag_coalesceEnded (i : Nat) (s : State) (h : s.flag i = true) : (coalesceEnded s).flag i = true := by
  unfold coalesceEnded
  try dsimp only
  (repeat' split) <;> (try simp_all) <;> (repeat' split) <;> (try simp_all)

@[simp] theorem flag_touchMirror (i : Nat) (s : State) : (touchMirror s).flag i = s.flag i := by
  unfold touchMirror
  try dsimp only
  (repeat' split) <;> (try simp_all) <;> (repeat' split) <;> (try simp_all)

@[simp] theorem flag_touchCopy (i : Nat) (c : LcCounter) (s : State) : (touchCopy c s).flag i = s.flag i := by
  unfold touchCopy
  try dsimp only
  (repeat' split) <;> (try simp_all) <;> (repeat' split) <;> (try simp_all)

@[simp] theorem flag_advanceTaken (i : Nat) (s : State) : (advanceTaken s).flag i = s.flag i := by
  unfold advanceTaken
  try dsimp only
  (repeat' split) <;> (try simp_all) <;> (repeat' split) <;> (try simp_all)

@[simp] theorem flag_advanceRetired (i : Nat) (s : State) : (advanceRetired s).flag i = s.flag i := by
  unfold advanceRetired
  try dsimp only
  (repeat' split) <;> (try simp_all) <;> (repeat' split) <;> (try simp_all)

@[simp] theorem flag_advanceJudged (i : Nat) (s : State) : (advanceJudged s).flag i = s.flag i := by
  unfold advanceJudged
  try dsimp only
  (repeat' split) <;> (try simp_all) <;> (repeat' split) <;> (try simp_all)

@[simp] theorem flag_advanceRejected (i : Nat) (s : State) : (advanceRejected s).flag i = s.flag i := by
  unfold advanceRejected
  try dsimp only
  (repeat' split) <;> (try simp_all) <;> (repeat' split) <;> (try simp_all)

@[simp] theorem flag_advanceUnqueued (i : Nat) (s : State) : (advanceUnqueued s).flag i = s.flag i := by
  unfold advanceUnqueued
  try dsimp only
  (repeat' split) <;> (try simp_all) <;> (repeat' split) <;> (try simp_all)

@[simp] theorem flag_advanceUnderruns (i : Nat) (s : State) : (advanceUnderruns s).flag i = s.flag i := by
  unfold advanceUnderruns
  try dsimp only
  (repeat' split) <;> (try simp_all) <;> (repeat' split) <;> (try simp_all)

@[simp] theorem flag_retime (i : Nat) (s : State) (h : s.flag i = true) : (retime s).flag i = true := by
  unfold retime
  try dsimp only
  (repeat' split) <;> (try simp_all) <;> (repeat' split) <;> (try simp_all)

@[simp] theorem flag_arm (i : Nat) (n : TimerName) (ms : Nat) (s : State) : (arm n ms s).flag i = s.flag i := by
  unfold arm
  try dsimp only
  (repeat' split) <;> (try simp_all) <;> (repeat' split) <;> (try simp_all)

@[simp] theorem flag_cancel (i : Nat) (n : TimerName) (s : State) : (cancel n s).flag i = s.flag i := by
  unfold cancel
  try dsimp only
  (repeat' split) <;> (try simp_all) <;> (repeat' split) <;> (try simp_all)

@[simp] theorem flag_tickClock (i : Nat) (s : State) (h : s.flag i = true) : (tickClock s).flag i = true := by
  unfold tickClock
  try dsimp only
  (repeat' split) <;> (try simp_all) <;> (repeat' split) <;> (try simp_all)

@[simp] theorem flag_takeExpiry (i : Nat) (n : TimerName) (s : State) : (takeExpiry n s).flag i = s.flag i := by
  unfold takeExpiry
  try dsimp only
  (repeat' split) <;> (try simp_all) <;> (repeat' split) <;> (try simp_all)

@[simp] theorem flag_cutRamp (i : Nat) (s : State) : (cutRamp s).flag i = s.flag i := by
  unfold cutRamp
  try dsimp only
  (repeat' split) <;> (try simp_all) <;> (repeat' split) <;> (try simp_all)

@[simp] theorem flag_hushRamp (i : Nat) (s : State) : (hushRamp s).flag i = s.flag i := by
  unfold hushRamp
  try dsimp only
  (repeat' split) <;> (try simp_all) <;> (repeat' split) <;> (try simp_all)

@[simp] theorem flag_writeSample (i : Nat) (code : Byte) (k : Nat) (s : State) : (writeSample code k s).flag i = s.flag i := by
  unfold writeSample
  try dsimp only
  (repeat' split) <;> (try simp_all) <;> (repeat' split) <;> (try simp_all)

@[simp] theorem flag_placeMark (i : Nat) (s : State) : (placeMark s).flag i = s.flag i := by
  unfold placeMark
  try dsimp only
  (repeat' split) <;> (try simp_all) <;> (repeat' split) <;> (try simp_all)

@[simp] theorem flag_sendFrame (i : Nat) (v : Int) (s : State) : (sendFrame v s).flag i = s.flag i := by
  unfold sendFrame
  try dsimp only
  (repeat' split) <;> (try simp_all) <;> (repeat' split) <;> (try simp_all)

@[simp] theorem flag_emptySlot (i : Nat) (s : State) : (emptySlot s).flag i = s.flag i := by
  unfold emptySlot
  try dsimp only
  (repeat' split) <;> (try simp_all) <;> (repeat' split) <;> (try simp_all)

@[simp] theorem flag_slot (i : Nat) (s : State) : (slot s).flag i = s.flag i := by
  unfold slot
  try dsimp only
  (repeat' split) <;> (try simp_all) <;> (repeat' split) <;> (try simp_all)

@[simp] theorem flag_takeVolume (i : Nat) (s : State) : (takeVolume s).flag i = s.flag i := by
  unfold takeVolume
  try dsimp only
  (repeat' split) <;> (try simp_all) <;> (repeat' split) <;> (try simp_all)

@[simp] theorem flag_routeKey (i : Nat) (e : KeyEvent) (s : State) : (routeKey e s).flag i = s.flag i := by
  unfold routeKey
  try dsimp only
  (repeat' split) <;> (try simp_all) <;> (repeat' split) <;> (try simp_all)

@[simp] theorem flag_classifyKey (i : Nat) (p : Nat) (time : Word) (s : State) : (classifyKey p time s).flag i = s.flag i := by
  unfold classifyKey
  try dsimp only
  (repeat' split) <;> (try simp_all) <;> (repeat' split) <;> (try simp_all)

@[simp] theorem flag_acceptDown (i : Nat) (p : Nat) (time : Word) (s : State) : (acceptDown p time s).flag i = s.flag i := by
  unfold acceptDown
  try dsimp only
  (repeat' split) <;> (try simp_all) <;> (repeat' split) <;> (try simp_all)

@[simp] theorem flag_samplePosition (i : Nat) (passTime : Word) (p : Nat) (down : Bool) (s : State) : (samplePosition passTime p down s).flag i = s.flag i := by
  unfold samplePosition
  try dsimp only
  (repeat' split) <;> (try simp_all) <;> (repeat' split) <;> (try simp_all)

@[simp] theorem flag_scanPass (i : Nat) (t : Word) (keys : BitVec 64) (s : State) : (scanPass t keys s).flag i = s.flag i := by
  unfold scanPass
  generalize List.range 64 = l
  induction l generalizing s with
  | nil => rfl
  | cons p l ih => exact (ih _).trans (flag_samplePosition i t p _ s)

@[simp] theorem flag_beginRewrite (i : Nat) (s : State) : (beginRewrite s).flag i = s.flag i := by
  unfold beginRewrite
  try dsimp only
  (repeat' split) <;> (try simp_all) <;> (repeat' split) <;> (try simp_all)

@[simp] theorem flag_redraw (i : Nat) (s : State) : (redraw s).flag i = s.flag i := by
  unfold redraw
  try dsimp only
  (repeat' split) <;> (try simp_all) <;> (repeat' split) <;> (try simp_all)

@[simp] theorem flag_openLine (i : Nat) (card : Word) (s : State) : (openLine card s).flag i = s.flag i := by
  unfold openLine
  try dsimp only
  (repeat' split) <;> (try simp_all) <;> (repeat' split) <;> (try simp_all)

@[simp] theorem flag_endLine (i : Nat) (s : State) : (endLine s).flag i = s.flag i := by
  unfold endLine
  try dsimp only
  (repeat' split) <;> (try simp_all) <;> (repeat' split) <;> (try simp_all)

@[simp] theorem flag_closeLine (i : Nat) (s : State) : (closeLine s).flag i = s.flag i := by
  unfold closeLine
  try dsimp only
  (repeat' split) <;> (try simp_all) <;> (repeat' split) <;> (try simp_all)

@[simp] theorem flag_abortLine (i : Nat) (s : State) : (abortLine s).flag i = s.flag i := by
  unfold abortLine
  try dsimp only
  (repeat' split) <;> (try simp_all) <;> (repeat' split) <;> (try simp_all)

@[simp] theorem flag_dropLine (i : Nat) (s : State) : (dropLine s).flag i = s.flag i := by
  unfold dropLine
  try dsimp only
  (repeat' split) <;> (try simp_all) <;> (repeat' split) <;> (try simp_all)

@[simp] theorem flag_lineAdvance (i : Nat) (s : State) : (lineAdvance s).flag i = s.flag i := by
  unfold lineAdvance
  try dsimp only
  (repeat' split) <;> (try simp_all) <;> (repeat' split) <;> (try simp_all)

@[simp] theorem flag_discardReads (i : Nat) (s : State) : (discardReads s).flag i = s.flag i := by
  unfold discardReads
  rw [flag_onPort]
  split <;> rfl

@[simp] theorem flag_dropDone (i : Nat) (s : State) : (dropDone s).flag i = s.flag i := by
  unfold dropDone
  rw [flag_onSpeech, flag_onPort]
  split <;> rfl

@[simp] theorem flag_markWords (i : Nat) (ks : List Nat) (s : State) : (markWords ks s).flag i = s.flag i := by
  unfold markWords
  try dsimp only
  (repeat' split) <;> (try simp_all) <;> (repeat' split) <;> (try simp_all)

@[simp] theorem flag_reportUnspoken (i : Nat) (s : State) : (reportUnspoken s).flag i = s.flag i := by
  unfold reportUnspoken
  try dsimp only
  (repeat' split) <;> (try simp_all) <;> (repeat' split) <;> (try simp_all)

@[simp] theorem flag_reportForced (i : Nat) (n : Nat) (s : State) : (reportForced n s).flag i = s.flag i := by
  unfold reportForced
  try dsimp only
  (repeat' split) <;> (try simp_all) <;> (repeat' split) <;> (try simp_all)

@[simp] theorem flag_addWords (i : Nat) (ws : List (List UnitRef)) (gapMs : Nat) (s : State) : (addWords ws gapMs s).flag i = s.flag i := by
  unfold addWords
  try dsimp only
  (repeat' split) <;> (try simp_all) <;> (repeat' split) <;> (try simp_all)

@[simp] theorem flag_planMore (i : Nat) (ps : List Part) (s : State) : (planMore ps s).flag i = s.flag i := by
  induction ps generalizing s with
  | nil => rfl
  | cons p ps ih => unfold planMore; split <;> simp [ih]

@[simp] theorem flag_absorbBad (i : Nat) (s : State) : (absorbBad s).flag i = s.flag i := by
  unfold absorbBad
  try dsimp only
  (repeat' split) <;> (try simp_all) <;> (repeat' split) <;> (try simp_all)

@[simp] theorem flag_enterFill (i : Nat) (s : State) : (enterFill s).flag i = s.flag i := by
  unfold enterFill
  try dsimp only
  (repeat' split) <;> (try simp_all) <;> (repeat' split) <;> (try simp_all)

@[simp] theorem flag_gatherMore (i : Nat) (s : State) : (gatherMore s).flag i = s.flag i := by
  unfold gatherMore
  try dsimp only
  (repeat' split) <;> (try simp_all) <;> (repeat' split) <;> (try simp_all)

@[simp] theorem flag_beginPhrase (i : Nat) (n : Nat) (replayed : Bool) (s : State) : (beginPhrase n replayed s).flag i = s.flag i := by
  unfold beginPhrase
  try dsimp only
  (repeat' split) <;> (try simp_all) <;> (repeat' split) <;> (try simp_all)

@[simp] theorem flag_awaitEnd (i : Nat) (s : State) : (awaitEnd s).flag i = s.flag i := by
  unfold awaitEnd
  try dsimp only
  (repeat' split) <;> (try simp_all) <;> (repeat' split) <;> (try simp_all)

@[simp] theorem flag_beginPlan (i : Nat) (s : State) : (beginPlan s).flag i = s.flag i := by
  unfold beginPlan
  try dsimp only
  (repeat' split) <;> (try simp_all) <;> (repeat' split) <;> (try simp_all)

@[simp] theorem flag_makePlan (i : Nat) (s : State) : (makePlan s).flag i = s.flag i := by
  unfold makePlan
  try dsimp only
  (repeat' split) <;> (try simp_all) <;> (repeat' split) <;> (try simp_all)

@[simp] theorem flag_startHead (i : Nat) (s : State) : (startHead s).flag i = s.flag i := by
  unfold startHead
  try dsimp only
  (repeat' split) <;> (try simp_all) <;> (repeat' split) <;> (try simp_all)

@[simp] theorem flag_tryStart (i : Nat) (s : State) : (tryStart s).flag i = s.flag i := by
  unfold tryStart
  try dsimp only
  (repeat' split) <;> (try simp_all) <;> (repeat' split) <;> (try simp_all)

@[simp] theorem flag_finishGap (i : Nat) (s : State) : (finishGap s).flag i = s.flag i := by
  unfold finishGap
  try dsimp only
  (repeat' split) <;> (try simp_all) <;> (repeat' split) <;> (try simp_all)

@[simp] theorem flag_enterGap (i : Nat) (kind : GapKind) (n : Nat) (s : State) : (enterGap kind n s).flag i = s.flag i := by
  unfold enterGap
  try dsimp only
  (repeat' split) <;> (try simp_all) <;> (repeat' split) <;> (try simp_all)

@[simp] theorem flag_trailingPause (i : Nat) (s : State) : (trailingPause s).flag i = s.flag i := by
  unfold trailingPause
  try dsimp only
  (repeat' split) <;> (try simp_all) <;> (repeat' split) <;> (try simp_all)

@[simp] theorem flag_place (i : Nat) (k : UtteranceKind) (ps : List Part) (s : State) : (place k ps s).1.flag i = s.flag i := by
  unfold place
  try dsimp only
  (repeat' split) <;> (try simp_all) <;> (repeat' split) <;> (try simp_all)

@[simp] theorem flag_placeLoose (i : Nat) (kind : UtteranceKind) (parts : List Part) (s : State) : (placeLoose kind parts s).flag i = s.flag i := by
  unfold placeLoose
  try dsimp only
  (repeat' split) <;> (try simp_all) <;> (repeat' split) <;> (try simp_all)

@[simp] theorem flag_cancelHandoff (i : Nat) (s : State) : (cancelHandoff s).flag i = s.flag i := by
  unfold cancelHandoff
  try dsimp only
  (repeat' split) <;> (try simp_all) <;> (repeat' split) <;> (try simp_all)

@[simp] theorem flag_cutPlaying (i : Nat) (s : State) : (cutPlaying s).flag i = s.flag i := by
  unfold cutPlaying
  try dsimp only
  (repeat' split) <;> (try simp_all) <;> (repeat' split) <;> (try simp_all)

@[simp] theorem flag_cutHeld (i : Nat) (s : State) : (cutHeld s).flag i = s.flag i := by
  unfold cutHeld
  try dsimp only
  (repeat' split) <;> (try simp_all) <;> (repeat' split) <;> (try simp_all)

@[simp] theorem flag_cutQueued (i : Nat) (seq : Nat) (s : State) : (cutQueued seq s).flag i = s.flag i := by
  unfold cutQueued
  try dsimp only
  (repeat' split) <;> (try simp_all) <;> (repeat' split) <;> (try simp_all)

@[simp] theorem flag_cut (i : Nat) (seq : Nat) (s : State) : (cut seq s).flag i = s.flag i := by
  unfold cut
  try dsimp only
  (repeat' split) <;> (try simp_all) <;> (repeat' split) <;> (try simp_all)

@[simp] theorem flag_flushSpeech (i : Nat) (s : State) : (flushSpeech s).flag i = s.flag i := by
  unfold flushSpeech
  try dsimp only
  (repeat' split) <;> (try simp_all) <;> (repeat' split) <;> (try simp_all)

@[simp] theorem flag_endSpeech (i : Nat) (s : State) : (endSpeech s).flag i = s.flag i := by simp [endSpeech]

@[simp] theorem flag_freezeRecord (i : Nat) (s : State) : (freezeRecord s).flag i = s.flag i := by
  unfold freezeRecord
  try dsimp only
  (repeat' split) <;> (try simp_all) <;> (repeat' split) <;> (try simp_all)

@[simp] theorem flag_engineIdle (i : Nat) (s : State) : (engineIdle s).flag i = s.flag i := by
  unfold engineIdle
  try dsimp only
  (repeat' split) <;> (try simp_all) <;> (repeat' split) <;> (try simp_all)

@[simp] theorem flag_walkerAbort (i : Nat) (s : State) : (walkerAbort s).flag i = s.flag i := by
  unfold walkerAbort
  split <;> rfl

@[simp] theorem flag_presentationEnded (i : Nat) (final : Option FinalTry) (s : State) : (presentationEnded final s).flag i = s.flag i := by
  unfold presentationEnded
  try dsimp only
  (repeat' split) <;> (try simp_all) <;> (repeat' split) <;> (try simp_all)

@[simp] theorem flag_presentStart (i : Nat) (cur : Current) (s : State) : (presentStart cur s).flag i = s.flag i := by
  unfold presentStart
  try dsimp only
  (repeat' split) <;> (try simp_all) <;> (repeat' split) <;> (try simp_all)

@[simp] theorem flag_presentSlot (i : Nat) (s : State) : (presentSlot s).flag i = s.flag i := by
  unfold presentSlot
  try dsimp only
  (repeat' split) <;> (try simp_all) <;> (repeat' split) <;> (try simp_all)

@[simp] theorem flag_presentReview (i : Nat) (s : State) : (presentReview s).flag i = s.flag i := by
  unfold presentReview
  try dsimp only
  (repeat' split) <;> (try simp_all) <;> (repeat' split) <;> (try simp_all)

@[simp] theorem flag_beginClosing (i : Nat) (why : CloseWhy) (s : State) : (beginClosing why s).flag i = s.flag i := by
  unfold beginClosing
  try dsimp only
  (repeat' split) <;> (try simp_all) <;> (repeat' split) <;> (try simp_all)

@[simp] theorem flag_closeEnded (i : Nat) (s : State) : (closeEnded s).flag i = s.flag i := by
  unfold closeEnded
  try dsimp only
  (repeat' split) <;> (try simp_all) <;> (repeat' split) <;> (try simp_all)

@[simp] theorem flag_starve (i : Nat) (resumed : Bool) (s : State) (h : s.flag i = true) : (starve resumed s).flag i = true := by
  unfold starve
  try dsimp only
  (repeat' split) <;> (try simp_all) <;> (repeat' split) <;> (try simp_all)

@[simp] theorem flag_choose (i : Nat) (resumed : Bool) (s : State) (h : s.flag i = true) : (choose resumed s).flag i = true := by
  unfold choose
  try dsimp only
  (repeat' split) <;> (try simp_all) <;> (repeat' split) <;> (try simp_all)

@[simp] theorem flag_walkerReport (i : Nat) (s : State) (h : s.flag i = true) : (walkerReport s).flag i = true := by
  unfold walkerReport
  try dsimp only
  (repeat' split) <;> (try simp_all) <;> (repeat' split) <;> (try simp_all)

@[simp] theorem flag_stopLesson (i : Nat) (why : CloseWhy) (s : State) : (stopLesson why s).flag i = s.flag i := by
  unfold stopLesson
  try dsimp only
  (repeat' split) <;> (try simp_all) <;> (repeat' split) <;> (try simp_all)

@[simp] theorem flag_giveBackNext (i : Nat) (why : CloseWhy) (s : State) : (giveBackNext why s).flag i = s.flag i := by
  unfold giveBackNext
  try dsimp only
  (repeat' split) <;> (try simp_all) <;> (repeat' split) <;> (try simp_all)

@[simp] theorem flag_enterEnded (i : Nat) (s : State) (h : s.flag i = true) : (enterEnded s).flag i = true := by
  unfold enterEnded
  try dsimp only
  (repeat' split) <;> (try simp_all) <;> (repeat' split) <;> (try simp_all)

@[simp] theorem flag_enterFaulted (i : Nat) (code : FaultCode) (ref : Word) (detail : Word) (s : State) : (enterFaulted code ref detail s).flag i = s.flag i := by
  unfold enterFaulted
  try dsimp only
  (repeat' split) <;> (try simp_all) <;> (repeat' split) <;> (try simp_all)

@[simp] theorem flag_enterStopped (i : Nat) (s : State) : (enterStopped s).flag i = s.flag i := by
  unfold enterStopped
  try dsimp only
  (repeat' split) <;> (try simp_all) <;> (repeat' split) <;> (try simp_all)

@[simp] theorem flag_copiesNext (i : Nat) (why : CloseWhy) (s : State) (h : s.flag i = true) : (copiesNext why s).flag i = true := by
  unfold copiesNext
  try dsimp only
  (repeat' split) <;> (try simp_all) <;> (repeat' split) <;> (try simp_all)

@[simp] theorem flag_startEndChain (i : Nat) (s : State) : (startEndChain s).flag i = s.flag i := by
  unfold startEndChain
  try dsimp only
  (repeat' split) <;> (try simp_all) <;> (repeat' split) <;> (try simp_all)

@[simp] theorem flag_lcAdvance (i : Nat) (s : State) (h : s.flag i = true) : (lcAdvance s).flag i = true := by
  unfold lcAdvance
  try dsimp only
  (repeat' split) <;> (try simp_all) <;> (repeat' split) <;> (try simp_all)

@[simp] theorem flag_cardGivenBack (i : Nat) (s : State) : (cardGivenBack s).flag i = s.flag i := by
  unfold cardGivenBack
  try dsimp only
  (repeat' split) <;> (try simp_all) <;> (repeat' split) <;> (try simp_all)

@[simp] theorem flag_endHeaderDone (i : Nat) (s : State) : (endHeaderDone s).flag i = s.flag i := by
  unfold endHeaderDone
  try dsimp only
  (repeat' split) <;> (try simp_all) <;> (repeat' split) <;> (try simp_all)

@[simp] theorem flag_endDone (i : Nat) (s : State) (h : s.flag i = true) : (endDone s).flag i = true := by
  unfold endDone
  try dsimp only
  (repeat' split) <;> (try simp_all) <;> (repeat' split) <;> (try simp_all)

@[simp] theorem flag_lcAfter (i : Nat) (a : LcAfter) (s : State) (h : s.flag i = true) : (lcAfter a s).flag i = true := by
  unfold lcAfter
  try dsimp only
  (repeat' split) <;> (try simp_all) <;> (repeat' split) <;> (try simp_all)

@[simp] theorem flag_discardAll (i : Nat) (s : State) : (discardAll s).flag i = s.flag i := by
  unfold discardAll
  try dsimp only
  (repeat' split) <;> (try simp_all) <;> (repeat' split) <;> (try simp_all)

@[simp] theorem flag_busFault (i : Nat) (s : State) (h : s.flag i = true) : (busFault s).flag i = true := by
  unfold busFault
  refine flag_setEvent i _ _ ?_
  rw [flag_onPort _ _ _ rfl]
  simp [h]

@[simp] theorem flag_cutPrompt (i : Nat) (s : State) : (cutPrompt s).flag i = s.flag i := by
  unfold cutPrompt
  try dsimp only
  (repeat' split) <;> (try simp_all) <;> (repeat' split) <;> (try simp_all)

@[simp] theorem flag_placePrompt (i : Nat) (parts : List Part) (s : State) : (placePrompt parts s).flag i = s.flag i := by
  unfold placePrompt
  try dsimp only
  (repeat' split) <;> (try simp_all) <;> (repeat' split) <;> (try simp_all)

@[simp] theorem flag_armReprompt (i : Nat) (s : State) : (armReprompt s).flag i = s.flag i := by
  unfold armReprompt
  try dsimp only
  (repeat' split) <;> (try simp_all) <;> (repeat' split) <;> (try simp_all)

@[simp] theorem flag_enterListening (i : Nat) (s : State) : (enterListening s).flag i = s.flag i := by
  unfold enterListening
  try dsimp only
  (repeat' split) <;> (try simp_all) <;> (repeat' split) <;> (try simp_all)

@[simp] theorem flag_startTry (i : Nat) (tryNo : Nat) (s : State) : (startTry tryNo s).flag i = s.flag i := by
  unfold startTry
  try dsimp only
  (repeat' split) <;> (try simp_all) <;> (repeat' split) <;> (try simp_all)

@[simp] theorem flag_handOverWord (i : Nat) (card : Word) (img : WordImage) (review : Bool) (s : State) : (handOverWord card img review s).flag i = s.flag i := by
  unfold handOverWord
  try dsimp only
  (repeat' split) <;> (try simp_all) <;> (repeat' split) <;> (try simp_all)

@[simp] theorem flag_placeSay (i : Nat) (s : State) : (placeSay s).flag i = s.flag i := by
  unfold placeSay
  try dsimp only
  (repeat' split) <;> (try simp_all) <;> (repeat' split) <;> (try simp_all)

@[simp] theorem flag_handOverSay (i : Nat) (card : Word) (ref : Word) (s : State) : (handOverSay card ref s).flag i = s.flag i := by
  unfold handOverSay
  try dsimp only
  (repeat' split) <;> (try simp_all) <;> (repeat' split) <;> (try simp_all)

@[simp] theorem flag_placeFeedback (i : Nat) (s : State) : (placeFeedback s).flag i = s.flag i := by
  unfold placeFeedback
  try dsimp only
  (repeat' split) <;> (try simp_all) <;> (repeat' split) <;> (try simp_all)

@[simp] theorem flag_verdict (i : Nat) (v : Verdict) (j : Judged) (s : State) : (verdict v j s).flag i = s.flag i := by
  unfold verdict
  try dsimp only
  (repeat' split) <;> (try simp_all) <;> (repeat' split) <;> (try simp_all)

@[simp] theorem flag_verdictUnjudged (i : Nat) (v : Verdict) (s : State) : (verdictUnjudged v s).flag i = s.flag i := by
  unfold verdictUnjudged
  try dsimp only
  (repeat' split) <;> (try simp_all) <;> (repeat' split) <;> (try simp_all)

@[simp] theorem flag_verdictLive (i : Nat) (alt : Nat) (s : State) : (verdictLive alt s).flag i = s.flag i := by
  unfold verdictLive
  try dsimp only
  (repeat' split) <;> (try simp_all) <;> (repeat' split) <;> (try simp_all)

@[simp] theorem flag_echoLetter (i : Nat) (c : Nat) (s : State) : (echoLetter c s).flag i = s.flag i := by
  unfold echoLetter
  try dsimp only
  (repeat' split) <;> (try simp_all) <;> (repeat' split) <;> (try simp_all)

@[simp] theorem flag_placeCue (i : Nat) (n : Nat) (s : State) : (placeCue n s).flag i = s.flag i := by
  unfold placeCue
  try dsimp only
  (repeat' split) <;> (try simp_all) <;> (repeat' split) <;> (try simp_all)

@[simp] theorem flag_captureLetter (i : Nat) (s : State) : (captureLetter s).flag i = s.flag i := by
  unfold captureLetter
  try dsimp only
  (repeat' split) <;> (try simp_all) <;> (repeat' split) <;> (try simp_all)

@[simp] theorem flag_appendLetter (i : Nat) (c : Nat) (s : State) : (appendLetter c s).flag i = s.flag i := by
  unfold appendLetter
  try dsimp only
  (repeat' split) <;> (try simp_all) <;> (repeat' split) <;> (try simp_all)

@[simp] theorem flag_wholeLetter (i : Nat) (c : Nat) (s : State) : (wholeLetter c s).flag i = s.flag i := by
  unfold wholeLetter
  try dsimp only
  (repeat' split) <;> (try simp_all) <;> (repeat' split) <;> (try simp_all)

@[simp] theorem flag_wholeBack (i : Nat) (s : State) : (wholeBack s).flag i = s.flag i := by
  unfold wholeBack
  try dsimp only
  (repeat' split) <;> (try simp_all) <;> (repeat' split) <;> (try simp_all)

@[simp] theorem flag_revealLetter (i : Nat) (alt : Nat) (p : Nat) (s : State) : (revealLetter alt p s).flag i = s.flag i := by
  unfold revealLetter
  try dsimp only
  (repeat' split) <;> (try simp_all) <;> (repeat' split) <;> (try simp_all)

@[simp] theorem flag_slip (i : Nat) (s : State) : (slip s).flag i = s.flag i := by
  unfold slip
  try dsimp only
  (repeat' split) <;> (try simp_all) <;> (repeat' split) <;> (try simp_all)

@[simp] theorem flag_afterAccepted (i : Nat) (s : State) (h : s.flag i = true) : (afterAccepted s).flag i = true := by
  unfold afterAccepted
  try dsimp only
  (repeat' split) <;> (try simp_all) <;> (repeat' split) <;> (try simp_all)

@[simp] theorem flag_liveLetter (i : Nat) (c : Nat) (s : State) (h : s.flag i = true) : (liveLetter c s).flag i = true := by
  unfold liveLetter
  try dsimp only
  (repeat' split) <;> (try simp_all) <;> (repeat' split) <;> (try simp_all)

@[simp] theorem flag_letterKey (i : Nat) (c : Nat) (s : State) (h : s.flag i = true) : (letterKey c s).flag i = true := by
  unfold letterKey
  try dsimp only
  (repeat' split) <;> (try simp_all) <;> (repeat' split) <;> (try simp_all)

@[simp] theorem flag_backKey (i : Nat) (s : State) : (backKey s).flag i = s.flag i := by
  unfold backKey
  try dsimp only
  (repeat' split) <;> (try simp_all) <;> (repeat' split) <;> (try simp_all)

@[simp] theorem flag_hintKey (i : Nat) (s : State) : (hintKey s).flag i = s.flag i := by
  unfold hintKey
  try dsimp only
  (repeat' split) <;> (try simp_all) <;> (repeat' split) <;> (try simp_all)

@[simp] theorem flag_countReplay (i : Nat) (s : State) : (countReplay s).flag i = s.flag i := by
  unfold countReplay
  try dsimp only
  (repeat' split) <;> (try simp_all) <;> (repeat' split) <;> (try simp_all)

@[simp] theorem flag_repeatKey (i : Nat) (s : State) : (repeatKey s).flag i = s.flag i := by
  unfold repeatKey
  try dsimp only
  (repeat' split) <;> (try simp_all) <;> (repeat' split) <;> (try simp_all)

@[simp] theorem flag_submit (i : Nat) (s : State) : (submit s).flag i = s.flag i := by
  unfold submit
  try dsimp only
  (repeat' split) <;> (try simp_all) <;> (repeat' split) <;> (try simp_all)

@[simp] theorem flag_enterKey (i : Nat) (s : State) : (enterKey s).flag i = s.flag i := by
  unfold enterKey
  try dsimp only
  (repeat' split) <;> (try simp_all) <;> (repeat' split) <;> (try simp_all)

@[simp] theorem flag_keyEffect (i : Nat) (meaning : Nat) (s : State) (h : s.flag i = true) : (keyEffect meaning s).flag i = true := by
  unfold keyEffect
  try dsimp only
  (repeat' split) <;> (try simp_all) <;> (repeat' split) <;> (try simp_all)

@[simp] theorem flag_listenKey (i : Nat) (meaning : Nat) (s : State) (h : s.flag i = true) : (listenKey meaning s).flag i = true := by
  unfold listenKey
  try dsimp only
  (repeat' split) <;> (try simp_all) <;> (repeat' split) <;> (try simp_all)

@[simp] theorem flag_bargeCut (i : Nat) (s : State) : (bargeCut s).flag i = s.flag i := by
  unfold bargeCut
  try dsimp only
  (repeat' split) <;> (try simp_all) <;> (repeat' split) <;> (try simp_all)

@[simp] theorem flag_bargeKey (i : Nat) (meaning : Nat) (s : State) (h : s.flag i = true) : (bargeKey meaning s).flag i = true := by
  unfold bargeKey
  try dsimp only
  (repeat' split) <;> (try simp_all) <;> (repeat' split) <;> (try simp_all)

@[simp] theorem flag_sayEnded (i : Nat) (s : State) : (sayEnded s).flag i = s.flag i := by
  unfold sayEnded
  try dsimp only
  (repeat' split) <;> (try simp_all) <;> (repeat' split) <;> (try simp_all)

@[simp] theorem flag_cutSay (i : Nat) (s : State) : (cutSay s).flag i = s.flag i := by
  unfold cutSay
  try dsimp only
  (repeat' split) <;> (try simp_all) <;> (repeat' split) <;> (try simp_all)

@[simp] theorem flag_speakingKey (i : Nat) (meaning : Nat) (s : State) : (speakingKey meaning s).flag i = s.flag i := by
  unfold speakingKey
  try dsimp only
  (repeat' split) <;> (try simp_all) <;> (repeat' split) <;> (try simp_all)

@[simp] theorem flag_promptingKey (i : Nat) (meaning : Nat) (s : State) (h : s.flag i = true) : (promptingKey meaning s).flag i = true := by
  unfold promptingKey
  try dsimp only
  (repeat' split) <;> (try simp_all) <;> (repeat' split) <;> (try simp_all)

@[simp] theorem flag_headKey (i : Nat) (meaning : Nat) (s : State) (h : s.flag i = true) : (headKey meaning s).flag i = true := by
  unfold headKey
  try dsimp only
  (repeat' split) <;> (try simp_all) <;> (repeat' split) <;> (try simp_all)

@[simp] theorem flag_promptDone (i : Nat) (s : State) : (promptDone s).flag i = s.flag i := by
  unfold promptDone
  try dsimp only
  (repeat' split) <;> (try simp_all) <;> (repeat' split) <;> (try simp_all)

@[simp] theorem flag_feedbackDone (i : Nat) (s : State) : (feedbackDone s).flag i = s.flag i := by
  unfold feedbackDone
  try dsimp only
  (repeat' split) <;> (try simp_all) <;> (repeat' split) <;> (try simp_all)

@[simp] theorem flag_promptOver (i : Nat) (seq : Nat) (s : State) : (promptOver seq s).flag i = s.flag i := by
  unfold promptOver
  split <;> simp

@[simp] theorem flag_utteranceDone (i : Nat) (seq : Nat) (s : State) : (utteranceDone seq s).flag i = s.flag i := by
  unfold utteranceDone
  try dsimp only
  (repeat' split) <;> (try simp_all) <;> (repeat' split) <;> (try simp_all)

@[simp] theorem flag_repromptListening (i : Nat) (s : State) : (repromptListening s).flag i = s.flag i := by
  unfold repromptListening
  try dsimp only
  (repeat' split) <;> (try simp_all) <;> (repeat' split) <;> (try simp_all)

@[simp] theorem flag_repromptExpired (i : Nat) (s : State) : (repromptExpired s).flag i = s.flag i := by
  unfold repromptExpired
  try dsimp only
  (repeat' split) <;> (try simp_all) <;> (repeat' split) <;> (try simp_all)

@[simp] theorem flag_settleExpired (i : Nat) (s : State) : (settleExpired s).flag i = s.flag i := by
  unfold settleExpired
  try dsimp only
  (repeat' split) <;> (try simp_all) <;> (repeat' split) <;> (try simp_all)

@[simp] theorem flag_judgingDone (i : Nat) (v : Verdict) (j : Judged) (s : State) : (judgingDone v j s).flag i = s.flag i := by
  unfold judgingDone
  try dsimp only
  (repeat' split) <;> (try simp_all) <;> (repeat' split) <;> (try simp_all)

@[simp] theorem flag_suspend (i : Nat) (s : State) : (suspend s).flag i = s.flag i := by
  unfold suspend
  try dsimp only
  (repeat' split) <;> (try simp_all) <;> (repeat' split) <;> (try simp_all)

@[simp] theorem flag_resumePlacement (i : Nat) (left : AttemptState) (s : State) : (resumePlacement left s).flag i = s.flag i := by
  unfold resumePlacement
  try dsimp only
  (repeat' split) <;> (try simp_all) <;> (repeat' split) <;> (try simp_all)

@[simp] theorem flag_resumeEngine (i : Nat) (s : State) : (resumeEngine s).flag i = s.flag i := by
  unfold resumeEngine
  try dsimp only
  (repeat' split) <;> (try simp_all) <;> (repeat' split) <;> (try simp_all)

@[simp] theorem flag_completeHead (i : Nat) (s : State) : (completeHead s).flag i = s.flag i := by
  unfold completeHead
  try dsimp only
  (repeat' split) <;> (try simp_all) <;> (repeat' split) <;> (try simp_all)

@[simp] theorem flag_stringDone (i : Nat) (s : State) : (stringDone s).flag i = s.flag i := by
  unfold stringDone
  try dsimp only
  (repeat' split) <;> (try simp_all) <;> (repeat' split) <;> (try simp_all)

@[simp] theorem flag_stringWord (i : Nat) (ref : Nat) (w : Word) (s : State) : (stringWord ref w s).flag i = s.flag i := by
  unfold stringWord
  try dsimp only
  (repeat' split) <;> (try simp_all) <;> (repeat' split) <;> (try simp_all)

@[simp] theorem flag_headerWordRead (i : Nat) (u : UnitRef) (w : Word) (s : State) : (headerWordRead u w s).flag i = s.flag i := by
  unfold headerWordRead
  try dsimp only
  (repeat' split) <;> (try simp_all) <;> (repeat' split) <;> (try simp_all)

@[simp] theorem flag_sampleWord (i : Nat) (w : Word) (s : State) : (sampleWord w s).flag i = s.flag i := by
  unfold sampleWord
  try dsimp only
  (repeat' split) <;> (try simp_all) <;> (repeat' split) <;> (try simp_all)

@[simp] theorem flag_afterSample (i : Nat) (s : State) : (afterSample s).flag i = s.flag i := by
  unfold afterSample
  try dsimp only
  (repeat' split) <;> (try simp_all) <;> (repeat' split) <;> (try simp_all)

@[simp] theorem flag_writePhrase (i : Nat) (s : State) : (writePhrase s).flag i = s.flag i := by
  unfold writePhrase
  try dsimp only
  (repeat' split) <;> (try simp_all) <;> (repeat' split) <;> (try simp_all)

@[simp] theorem flag_writePause (i : Nat) (s : State) : (writePause s).flag i = s.flag i := by
  unfold writePause
  try dsimp only
  (repeat' split) <;> (try simp_all) <;> (repeat' split) <;> (try simp_all)

@[simp] theorem flag_writeBuffer (i : Nat) (s : State) : (writeBuffer s).flag i = s.flag i := by
  unfold writeBuffer
  try dsimp only
  (repeat' split) <;> (try simp_all) <;> (repeat' split) <;> (try simp_all)

@[simp] theorem flag_requestHandoff (i : Nat) (s : State) : (requestHandoff s).flag i = s.flag i := by
  unfold requestHandoff
  try dsimp only
  (repeat' split) <;> (try simp_all) <;> (repeat' split) <;> (try simp_all)

@[simp] theorem flag_markReached (i : Nat) (s : State) : (markReached s).flag i = s.flag i := by
  unfold markReached
  try dsimp only
  (repeat' split) <;> (try simp_all) <;> (repeat' split) <;> (try simp_all)

@[simp] theorem flag_handoffDone (i : Nat) (s : State) : (handoffDone s).flag i = s.flag i := by
  unfold handoffDone
  try dsimp only
  (repeat' split) <;> (try simp_all) <;> (repeat' split) <;> (try simp_all)

@[simp] theorem flag_handoffLapse (i : Nat) (s : State) : (handoffLapse s).flag i = s.flag i := by
  unfold handoffLapse
  try dsimp only
  (repeat' split) <;> (try simp_all) <;> (repeat' split) <;> (try simp_all)

@[simp] theorem flag_nudgeComposer (i : Nat) (s : State) : (nudgeComposer s).flag i = s.flag i := by
  unfold nudgeComposer
  try dsimp only
  (repeat' split) <;> (try simp_all) <;> (repeat' split) <;> (try simp_all)

@[simp] theorem flag_doneWord (i : Nat) (w : Word) (s : State) : (doneWord w s).flag i = s.flag i := by
  unfold doneWord
  try dsimp only
  (repeat' split) <;> (try simp_all) <;> (repeat' split) <;> (try simp_all)

@[simp] theorem flag_recWritten (i : Nat) (r : RecWrite) (s : State) (h : s.flag i = true) : (recWritten r s).flag i = true := by
  unfold recWritten
  try dsimp only
  (repeat' split) <;> (try simp_all) <;> (repeat' split) <;> (try simp_all)

@[simp] theorem flag_dropRestart (i : Nat) (s : State) : (dropRestart s).flag i = s.flag i := by
  unfold dropRestart
  try dsimp only
  (repeat' split) <;> (try simp_all) <;> (repeat' split) <;> (try simp_all)

@[simp] theorem flag_hushAsserted (i : Nat) (s : State) : (hushAsserted s).flag i = s.flag i := by
  unfold hushAsserted
  try dsimp only
  (repeat' split) <;> (try simp_all) <;> (repeat' split) <;> (try simp_all)

@[simp] theorem flag_hushReleased (i : Nat) (s : State) : (hushReleased s).flag i = s.flag i := by
  unfold hushReleased
  try dsimp only
  (repeat' split) <;> (try simp_all) <;> (repeat' split) <;> (try simp_all)

@[simp] theorem flag_restartExpired (i : Nat) (s : State) : (restartExpired s).flag i = s.flag i := by
  unfold restartExpired
  try dsimp only
  (repeat' split) <;> (try simp_all) <;> (repeat' split) <;> (try simp_all)

@[simp] theorem flag_hushChanged (i : Nat) (before : Bool) (s : State) (h : s.flag i = true) : (hushChanged before s).flag i = true := by
  unfold hushChanged
  try dsimp only
  (repeat' split) <;> (try simp_all) <;> (repeat' split) <;> (try simp_all)

@[simp] theorem flag_setSoftHush (i : Nat) (on : Bool) (s : State) (h : s.flag i = true) : (setSoftHush on s).flag i = true := by
  unfold setSoftHush
  try dsimp only
  (repeat' split) <;> (try simp_all) <;> (repeat' split) <;> (try simp_all)

@[simp] theorem flag_sampleHush (i : Nat) (active : Bool) (s : State) (h : s.flag i = true) : (sampleHush active s).flag i = true := by
  unfold sampleHush
  try dsimp only
  (repeat' split) <;> (try simp_all) <;> (repeat' split) <;> (try simp_all)

@[simp] theorem flag_park (i : Nat) (s : State) (h : s.flag i = true) : (park s).flag i = true := by
  unfold park
  try dsimp only
  (repeat' split) <;> (try simp_all) <;> (repeat' split) <;> (try simp_all)

@[simp] theorem flag_linkRead (i : Nat) (v : Word) (s : State) (h : s.flag i = true) : (linkRead v s).flag i = true := by
  unfold linkRead
  try dsimp only
  (repeat' split) <;> (try simp_all) <;> (repeat' split) <;> (try simp_all)

@[simp] theorem flag_stateRead (i : Nat) (v : Word) (s : State) (h : s.flag i = true) : (stateRead v s).flag i = true := by
  unfold stateRead
  try dsimp only
  (repeat' split) <;> (try simp_all) <;> (repeat' split) <;> (try simp_all)

@[simp] theorem flag_mergeStaged (i : Nat) (s : State) (h : s.flag i = true) : (mergeStaged s).flag i = true := by
  unfold mergeStaged
  try dsimp only
  (repeat' split) <;> (try simp_all) <;> (repeat' split) <;> (try simp_all)

@[simp] theorem flag_checkCopied (i : Nat) (s : State) (h : s.flag i = true) : (checkCopied s).flag i = true := by
  unfold checkCopied
  try dsimp only
  (repeat' split) <;> (try simp_all) <;> (repeat' split) <;> (try simp_all)

@[simp] theorem flag_copyMore (i : Nat) (s : State) (h : s.flag i = true) : (copyMore s).flag i = true := by
  unfold copyMore
  try dsimp only
  (repeat' split) <;> (try simp_all) <;> (repeat' split) <;> (try simp_all)

@[simp] theorem flag_takenDone (i : Nat) (s : State) (h : s.flag i = true) : (takenDone s).flag i = true := by
  unfold takenDone
  try dsimp only
  (repeat' split) <;> (try simp_all) <;> (repeat' split) <;> (try simp_all)

@[simp] theorem flag_bodyRead (i : Nat) (v : Word) (s : State) (h : s.flag i = true) : (bodyRead v s).flag i = true := by
  unfold bodyRead
  try dsimp only
  (repeat' split) <;> (try simp_all) <;> (repeat' split) <;> (try simp_all)

@[simp] theorem flag_retireDone (i : Nat) (s : State) (h : s.flag i = true) : (retireDone s).flag i = true := by
  unfold retireDone
  try dsimp only
  (repeat' split) <;> (try simp_all) <;> (repeat' split) <;> (try simp_all)

@[simp] theorem flag_nudgeWalker (i : Nat) (s : State) : (nudgeWalker s).flag i = s.flag i := by
  unfold nudgeWalker
  try dsimp only
  (repeat' split) <;> (try simp_all) <;> (repeat' split) <;> (try simp_all)

@[simp] theorem flag_walkerStart (i : Nat) (s : State) : (walkerStart s).flag i = s.flag i := by
  unfold walkerStart
  try dsimp only
  (repeat' split) <;> (try simp_all) <;> (repeat' split) <;> (try simp_all)

@[simp] theorem flag_takeIssued (i : Nat) (a : Access) (s : State) : (takeIssued a s).flag i = s.flag i := by
  unfold takeIssued
  try dsimp only
  (repeat' split) <;> (try simp_all) <;> (repeat' split) <;> (try simp_all)

@[simp] theorem flag_issueFor (i : Nat) (r : Requester) (s : State) : (issueFor r s).flag i = s.flag i := by
  unfold issueFor
  split
  · split
    · rw [flag_takeIssued]; exact flag_onPort _ _ _ rfl
    · rfl
  · rfl

@[simp] theorem flag_issueAll (i : Nat) (s : State) : (issueAll s).flag i = s.flag i := by
  unfold issueAll
  try dsimp only
  (repeat' split) <;> (try simp_all) <;> (repeat' split) <;> (try simp_all)

@[simp] theorem flag_settle (i : Nat) (s : State) (h : s.flag i = true) : (settle s).flag i = true := by
  unfold settle
  try dsimp only
  (repeat' split) <;> (try simp_all) <;> (repeat' split) <;> (try simp_all)

@[simp] theorem flag_grantEffect (i : Nat) (a : Access) (s : State) : (grantEffect a s).flag i = s.flag i := by
  unfold grantEffect
  try dsimp only
  (repeat' split) <;> (try simp_all) <;> (repeat' split) <;> (try simp_all)

@[simp] theorem flag_grantTo (i : Nat) (r : Requester) (q : Request) (s : State) : (grantTo r q s).flag i = s.flag i := by
  unfold grantTo
  try dsimp only
  (repeat' split) <;> (try simp_all) <;> (repeat' split) <;> (try simp_all)

@[simp] theorem flag_grant (i : Nat) (s : State) : (grant s).flag i = s.flag i := by
  unfold grant
  try dsimp only
  (repeat' split) <;> (try simp_all) <;> (repeat' split) <;> (try simp_all)

@[simp] theorem flag_popChain (i : Nat) (s : State) : (popChain s).flag i = s.flag i := by
  unfold popChain
  try dsimp only
  (repeat' split) <;> (try simp_all) <;> (repeat' split) <;> (try simp_all)

@[simp] theorem flag_lcWritten (i : Nat) (chain : Bool) (s : State) (h : s.flag i = true) : (lcWritten chain s).flag i = true := by
  unfold lcWritten
  try dsimp only
  (repeat' split) <;> (try simp_all) <;> (repeat' split) <;> (try simp_all)

@[simp] theorem flag_handOver (i : Nat) (s : State) : (handOver s).flag i = s.flag i := by
  unfold handOver
  try dsimp only
  (repeat' split) <;> (try simp_all) <;> (repeat' split) <;> (try simp_all)

@[simp] theorem flag_startingWrites (i : Nat) (s : State) : (startingWrites s).flag i = s.flag i := by
  unfold startingWrites
  try dsimp only
  (repeat' split) <;> (try simp_all) <;> (repeat' split) <;> (try simp_all)

@[simp] theorem flag_setupWord (i : Nat) (k : Nat) (v : Word) (s : State) : (setupWord k v s).flag i = s.flag i := by
  unfold setupWord
  dsimp only
  split
  · simp
  · split
    · rw [flag_onPort]
      · simp
      · rfl
    · split
      · simp
      · split <;> simp

@[simp] theorem flag_setupReturned (i : Nat) (b : BusAccess) (v : Word) (s : State) : (setupReturned b v s).flag i = s.flag i := by
  unfold setupReturned
  try dsimp only
  (repeat' split) <;> (try simp_all) <;> (repeat' split) <;> (try simp_all)

@[simp] theorem flag_setupChecked (i : Nat) (s : State) (h : s.flag i = true) : (setupChecked s).flag i = true := by
  unfold setupChecked
  try dsimp only
  (repeat' split) <;> (try simp_all) <;> (repeat' split) <;> (try simp_all)

@[simp] theorem flag_accessFailed (i : Nat) (a : Access) (s : State) : (accessFailed a s).flag i = s.flag i := by
  unfold accessFailed
  try dsimp only
  (repeat' split) <;> (try simp_all) <;> (repeat' split) <;> (try simp_all)

@[simp] theorem flag_busFailed (i : Nat) (b : BusAccess) (s : State) (h : s.flag i = true) : (busFailed b s).flag i = true := by
  unfold busFailed
  try dsimp only
  (repeat' split) <;> (try simp_all) <;> (repeat' split) <;> (try simp_all)

@[simp] theorem flag_pauseAccepted (i : Nat) (s : State) : (pauseAccepted s).flag i = s.flag i := by
  unfold pauseAccepted
  try dsimp only
  (repeat' split) <;> (try simp_all) <;> (repeat' split) <;> (try simp_all)

@[simp] theorem flag_resumeAccepted (i : Nat) (s : State) (h : s.flag i = true) : (resumeAccepted s).flag i = true := by
  unfold resumeAccepted
  try dsimp only
  (repeat' split) <;> (try simp_all) <;> (repeat' split) <;> (try simp_all)

@[simp] theorem flag_abortStart (i : Nat) (s : State) : (abortStart s).flag i = s.flag i := by
  unfold abortStart
  try dsimp only
  (repeat' split) <;> (try simp_all) <;> (repeat' split) <;> (try simp_all)

@[simp] theorem flag_abortOver (i : Nat) (s : State) : (abortOver s).flag i = s.flag i := by
  unfold abortOver
  try dsimp only
  (repeat' split) <;> (try simp_all) <;> (repeat' split) <;> (try simp_all)

@[simp] theorem flag_retireWritten (i : Nat) (a : Access) (s : State) (h : s.flag i = true) : (retireWritten a s).flag i = true := by
  unfold retireWritten
  try dsimp only
  (repeat' split) <;> (try simp_all) <;> (repeat' split) <;> (try simp_all)

@[simp] theorem flag_scannerWritten (i : Nat) (a : Access) (s : State) : (scannerWritten a s).flag i = s.flag i := by
  unfold scannerWritten
  try dsimp only
  (repeat' split) <;> (try simp_all) <;> (repeat' split) <;> (try simp_all)

@[simp] theorem flag_recordWritten (i : Nat) (a : Access) (s : State) (h : s.flag i = true) : (recordWritten a s).flag i = true := by
  unfold recordWritten
  try dsimp only
  (repeat' split) <;> (try simp_all) <;> (repeat' split) <;> (try simp_all)

@[simp] theorem flag_composerWritten (i : Nat) (a : Access) (s : State) : (composerWritten a s).flag i = s.flag i := by
  unfold composerWritten
  try dsimp only
  (repeat' split) <;> (try simp_all) <;> (repeat' split) <;> (try simp_all)

end Sys2Proof.Machine
end

