-- ==== Sys2Proof/Laws/Fixed.lean ====
section
/-! SUPPORT. What the part's on-chip work leaves alone: one lemma for each operation. -/
set_option linter.unusedSimpArgs false

namespace Sys2Proof.Machine

/-- The state that only commands of its own change. -/
structure Fixed where
  pending : List Instr
  window : Word
  enable : Byte
  time : Word
  keys : List Debounce
  deb : Nat
  keyMap : List Byte
  hushFilt : Nat
  directory : List BankEntry
  filter : HushFilter
  softHush : Bool
  codec : BitVec 16

/-- Those parts of a state. -/
def State.fixed (s : State) : Fixed :=
  { pending := s.pending, window := s.port.window, enable := s.port.enable, time := s.clock.time, keys := s.scanner.keys
    deb := s.scanner.deb, keyMap := s.scanner.keyMap, hushFilt := s.audio.hushFilt, directory := s.audio.directory
    filter := s.audio.filter, softHush := s.audio.softHush, codec := s.audio.codec }

/-! ### Updates of one block -/

@[simp] theorem fixed_onWalker (f : Walker → Walker) (s : State) : (s.onWalker f).fixed = s.fixed := rfl
@[simp] theorem fixed_onLc (f : Lc → Lc) (s : State) : (s.onLc f).fixed = s.fixed := rfl
@[simp] theorem fixed_onEngine (f : Engine → Engine) (s : State) : (s.onEngine f).fixed = s.fixed := rfl
@[simp] theorem fixed_onUnit (f : AlignUnit → AlignUnit) (s : State) : (s.onUnit f).fixed = s.fixed := rfl
@[simp] theorem fixed_onLine (f : Line → Line) (s : State) : (s.onLine f).fixed = s.fixed := rfl
@[simp] theorem fixed_onSpeech (f : Speech → Speech) (s : State) : (s.onSpeech f).fixed = s.fixed := rfl

theorem fixed_onPort (f : Port → Port) (s : State) (hw : (f s.port).window = s.port.window)
    (he : (f s.port).enable = s.port.enable) : (s.onPort f).fixed = s.fixed := by
  simp [State.fixed, hw, he]

theorem fixed_onClock (f : Clock → Clock) (s : State) (h : (f s.clock).time = s.clock.time) :
    (s.onClock f).fixed = s.fixed := by simp [State.fixed, h]

theorem fixed_onScanner (f : Scanner → Scanner) (s : State)
    (h : (f s.scanner).keys = s.scanner.keys ∧ (f s.scanner).deb = s.scanner.deb ∧ (f s.scanner).keyMap = s.scanner.keyMap) :
    (s.onScanner f).fixed = s.fixed := by simp [State.fixed, h]

theorem fixed_onAudio (f : Audio → Audio) (s : State)
    (h : (f s.audio).hushFilt = s.audio.hushFilt ∧ (f s.audio).directory = s.audio.directory ∧
      (f s.audio).filter = s.audio.filter ∧ (f s.audio).softHush = s.audio.softHush ∧ (f s.audio).codec = s.audio.codec) :
    (s.onAudio f).fixed = s.fixed := by simp [State.fixed, h]

/-! ### The key scanner's operations -/

@[simp] theorem Scanner.count_kept (k : Scanner) (c : KsCounter) (n : Nat) :
    (k.count c n).keys = k.keys ∧ (k.count c n).deb = k.deb ∧ (k.count c n).keyMap = k.keyMap := by
  unfold Scanner.count; cases c <;> (dsimp only; split <;> simp)

@[simp] theorem Scanner.arrive_kept (k : Scanner) (e : KeyEvent) :
    (k.arrive e).keys = k.keys ∧ (k.arrive e).deb = k.deb ∧ (k.arrive e).keyMap = k.keyMap := by
  unfold Scanner.arrive; split <;> simp

@[simp] theorem Scanner.takeHead_kept (k : Scanner) :
    k.takeHead.keys = k.keys ∧ k.takeHead.deb = k.deb ∧ k.takeHead.keyMap = k.keyMap := ⟨rfl, rfl, rfl⟩

@[simp] theorem Scanner.dropHead_kept (k : Scanner) :
    k.dropHead.keys = k.keys ∧ k.dropHead.deb = k.deb ∧ k.dropHead.keyMap = k.keyMap := by
  unfold Scanner.dropHead; split <;> simp

@[simp] theorem Scanner.flushLetters_kept (k : Scanner) :
    k.flushLetters.keys = k.keys ∧ k.flushLetters.deb = k.deb ∧ k.flushLetters.keyMap = k.keyMap := by
  simp [Scanner.flushLetters]

@[simp] theorem Scanner.flushAll_kept (k : Scanner) :
    k.flushAll.keys = k.keys ∧ k.flushAll.deb = k.deb ∧ k.flushAll.keyMap = k.keyMap := by
  simp [Scanner.flushAll]

@[simp] theorem Scanner.passKey_kept (k : Scanner) (e : KeyEvent) :
    (k.passKey e).keys = k.keys ∧ (k.passKey e).deb = k.deb ∧ (k.passKey e).keyMap = k.keyMap := by
  unfold Scanner.passKey; split <;> simp

@[simp] theorem Scanner.passLost_kept (k : Scanner) :
    k.passLost.keys = k.keys ∧ k.passLost.deb = k.deb ∧ k.passLost.keyMap = k.keyMap := by
  unfold Scanner.passLost; split <;> simp

@[simp] theorem Scanner.passStep_kept (k : Scanner) (st : PassStage) :
    (k.passStep st).keys = k.keys ∧ (k.passStep st).deb = k.deb ∧ (k.passStep st).keyMap = k.keyMap := ⟨rfl, rfl, rfl⟩

@[simp] theorem Scanner.passDone_kept (k : Scanner) :
    k.passDone.keys = k.keys ∧ k.passDone.deb = k.deb ∧ k.passDone.keyMap = k.keyMap := ⟨rfl, rfl, rfl⟩

@[simp] theorem Scanner.startAborted_kept (k : Scanner) (a : Option Access) :
    (k.startAborted a).keys = k.keys ∧ (k.startAborted a).deb = k.deb ∧ (k.startAborted a).keyMap = k.keyMap := ⟨rfl, rfl, rfl⟩

@[simp] theorem Clock.put_time (c : Clock) (n : TimerName) (t : Timer) : (c.put n t).time = c.time := by
  cases n <;> rfl

@[simp] theorem Port.discard_kept (p : Port) (r : Requester) :
    (p.discard r).window = p.window ∧ (p.discard r).enable = p.enable ∧ (p.discard r).events = p.events := ⟨rfl, rfl, rfl⟩

@[simp] theorem fixed_retime (s : State) : (retime s).fixed = s.fixed := by
  unfold retime; exact fixed_onClock _ _ rfl

@[simp] theorem fixed_setEvent (e : Event) (s : State) : (setEvent e s).fixed = s.fixed := by
  unfold setEvent
  try dsimp only
  (repeat' split) <;> (try simp [fixed_onPort, fixed_onClock, fixed_onScanner, fixed_onAudio]) <;>
    (repeat' split) <;> (try simp_all [fixed_onPort, fixed_onClock, fixed_onScanner, fixed_onAudio])

@[simp] theorem fixed_showResult (refused : Bool) (s : State) : (showResult refused s).fixed = s.fixed := by
  unfold showResult
  try dsimp only
  (repeat' split) <;> (try simp [fixed_onPort, fixed_onClock, fixed_onScanner, fixed_onAudio]) <;>
    (repeat' split) <;> (try simp_all [fixed_onPort, fixed_onClock, fixed_onScanner, fixed_onAudio])

@[simp] theorem fixed_coalesceEnd (s : State) : (coalesceEnd s).fixed = s.fixed := by
  unfold coalesceEnd
  try dsimp only
  (repeat' split) <;> (try simp [fixed_onPort, fixed_onClock, fixed_onScanner, fixed_onAudio]) <;>
    (repeat' split) <;> (try simp_all [fixed_onPort, fixed_onClock, fixed_onScanner, fixed_onAudio])

@[simp] theorem fixed_coalesceEnded (s : State) : (coalesceEnded s).fixed = s.fixed := by
  unfold coalesceEnded
  try dsimp only
  (repeat' split) <;> (try simp [fixed_onPort, fixed_onClock, fixed_onScanner, fixed_onAudio]) <;>
    (repeat' split) <;> (try simp_all [fixed_onPort, fixed_onClock, fixed_onScanner, fixed_onAudio])

@[simp] theorem fixed_touchMirror (s : State) : (touchMirror s).fixed = s.fixed := by
  unfold touchMirror
  try dsimp only
  (repeat' split) <;> (try simp [fixed_onPort, fixed_onClock, fixed_onScanner, fixed_onAudio]) <;>
    (repeat' split) <;> (try simp_all [fixed_onPort, fixed_onClock, fixed_onScanner, fixed_onAudio])

@[simp] theorem fixed_touchCopy (c : LcCounter) (s : State) : (touchCopy c s).fixed = s.fixed := by
  unfold touchCopy
  try dsimp only
  (repeat' split) <;> (try simp [fixed_onPort, fixed_onClock, fixed_onScanner, fixed_onAudio]) <;>
    (repeat' split) <;> (try simp_all [fixed_onPort, fixed_onClock, fixed_onScanner, fixed_onAudio])

@[simp] theorem fixed_advanceTaken (s : State) : (advanceTaken s).fixed = s.fixed := by
  unfold advanceTaken
  try dsimp only
  (repeat' split) <;> (try simp [fixed_onPort, fixed_onClock, fixed_onScanner, fixed_onAudio]) <;>
    (repeat' split) <;> (try simp_all [fixed_onPort, fixed_onClock, fixed_onScanner, fixed_onAudio])

@[simp] theorem fixed_advanceRetired (s : State) : (advanceRetired s).fixed = s.fixed := by
  unfold advanceRetired
  try dsimp only
  (repeat' split) <;> (try simp [fixed_onPort, fixed_onClock, fixed_onScanner, fixed_onAudio]) <;>
    (repeat' split) <;> (try simp_all [fixed_onPort, fixed_onClock, fixed_onScanner, fixed_onAudio])

@[simp] theorem fixed_advanceJudged (s : State) : (advanceJudged s).fixed = s.fixed := by
  unfold advanceJudged
  try dsimp only
  (repeat' split) <;> (try simp [fixed_onPort, fixed_onClock, fixed_onScanner, fixed_onAudio]) <;>
    (repeat' split) <;> (try simp_all [fixed_onPort, fixed_onClock, fixed_onScanner, fixed_onAudio])

@[simp] theorem fixed_advanceRejected (s : State) : (advanceRejected s).fixed = s.fixed := by
  unfold advanceRejected
  try dsimp only
  (repeat' split) <;> (try simp [fixed_onPort, fixed_onClock, fixed_onScanner, fixed_onAudio]) <;>
    (repeat' split) <;> (try simp_all [fixed_onPort, fixed_onClock, fixed_onScanner, fixed_onAudio])

@[simp] theorem fixed_advanceUnqueued (s : State) : (advanceUnqueued s).fixed = s.fixed := by
  unfold advanceUnqueued
  try dsimp only
  (repeat' split) <;> (try simp [fixed_onPort, fixed_onClock, fixed_onScanner, fixed_onAudio]) <;>
    (repeat' split) <;> (try simp_all [fixed_onPort, fixed_onClock, fixed_onScanner, fixed_onAudio])

@[simp] theorem fixed_advanceUnderruns (s : State) : (advanceUnderruns s).fixed = s.fixed := by
  unfold advanceUnderruns
  try dsimp only
  (repeat' split) <;> (try simp [fixed_onPort, fixed_onClock, fixed_onScanner, fixed_onAudio]) <;>
    (repeat' split) <;> (try simp_all [fixed_onPort, fixed_onClock, fixed_onScanner, fixed_onAudio])

@[simp] theorem fixed_arm (n : TimerName) (ms : Nat) (s : State) : (arm n ms s).fixed = s.fixed := by
  unfold arm
  try dsimp only
  (repeat' split) <;> (try simp [fixed_onPort, fixed_onClock, fixed_onScanner, fixed_onAudio]) <;>
    (repeat' split) <;> (try simp_all [fixed_onPort, fixed_onClock, fixed_onScanner, fixed_onAudio])

@[simp] theorem fixed_cancel (n : TimerName) (s : State) : (cancel n s).fixed = s.fixed := by
  unfold cancel
  try dsimp only
  (repeat' split) <;> (try simp [fixed_onPort, fixed_onClock, fixed_onScanner, fixed_onAudio]) <;>
    (repeat' split) <;> (try simp_all [fixed_onPort, fixed_onClock, fixed_onScanner, fixed_onAudio])

@[simp] theorem fixed_takeExpiry (n : TimerName) (s : State) : (takeExpiry n s).fixed = s.fixed := by
  unfold takeExpiry
  try dsimp only
  (repeat' split) <;> (try simp [fixed_onPort, fixed_onClock, fixed_onScanner, fixed_onAudio]) <;>
    (repeat' split) <;> (try simp_all [fixed_onPort, fixed_onClock, fixed_onScanner, fixed_onAudio])

@[simp] theorem fixed_cutRamp (s : State) : (cutRamp s).fixed = s.fixed := by
  unfold cutRamp
  try dsimp only
  (repeat' split) <;> (try simp [fixed_onPort, fixed_onClock, fixed_onScanner, fixed_onAudio]) <;>
    (repeat' split) <;> (try simp_all [fixed_onPort, fixed_onClock, fixed_onScanner, fixed_onAudio])

@[simp] theorem fixed_hushRamp (s : State) : (hushRamp s).fixed = s.fixed := by
  unfold hushRamp
  try dsimp only
  (repeat' split) <;> (try simp [fixed_onPort, fixed_onClock, fixed_onScanner, fixed_onAudio]) <;>
    (repeat' split) <;> (try simp_all [fixed_onPort, fixed_onClock, fixed_onScanner, fixed_onAudio])

@[simp] theorem fixed_writeSample (code : Byte) (k : Nat) (s : State) : (writeSample code k s).fixed = s.fixed := by
  unfold writeSample
  try dsimp only
  (repeat' split) <;> (try simp [fixed_onPort, fixed_onClock, fixed_onScanner, fixed_onAudio]) <;>
    (repeat' split) <;> (try simp_all [fixed_onPort, fixed_onClock, fixed_onScanner, fixed_onAudio])

@[simp] theorem fixed_placeMark (s : State) : (placeMark s).fixed = s.fixed := by
  unfold placeMark
  try dsimp only
  (repeat' split) <;> (try simp [fixed_onPort, fixed_onClock, fixed_onScanner, fixed_onAudio]) <;>
    (repeat' split) <;> (try simp_all [fixed_onPort, fixed_onClock, fixed_onScanner, fixed_onAudio])

@[simp] theorem fixed_emptySlot (s : State) : (emptySlot s).fixed = s.fixed := by
  unfold emptySlot
  try dsimp only
  (repeat' split) <;> (try simp [fixed_onPort, fixed_onClock, fixed_onScanner, fixed_onAudio]) <;>
    (repeat' split) <;> (try simp_all [fixed_onPort, fixed_onClock, fixed_onScanner, fixed_onAudio])

@[simp] theorem fixed_takeVolume (s : State) : (takeVolume s).fixed = s.fixed := by
  unfold takeVolume
  try dsimp only
  (repeat' split) <;> (try simp [fixed_onPort, fixed_onClock, fixed_onScanner, fixed_onAudio]) <;>
    (repeat' split) <;> (try simp_all [fixed_onPort, fixed_onClock, fixed_onScanner, fixed_onAudio])

@[simp] theorem fixed_routeKey (e : KeyEvent) (s : State) : (routeKey e s).fixed = s.fixed := by
  unfold routeKey
  try dsimp only
  (repeat' split) <;> (try simp [fixed_onPort, fixed_onClock, fixed_onScanner, fixed_onAudio]) <;>
    (repeat' split) <;> (try simp_all [fixed_onPort, fixed_onClock, fixed_onScanner, fixed_onAudio])

@[simp] theorem fixed_classifyKey (p : Nat) (time : Word) (s : State) : (classifyKey p time s).fixed = s.fixed := by
  unfold classifyKey
  try dsimp only
  (repeat' split) <;> (try simp [fixed_onPort, fixed_onClock, fixed_onScanner, fixed_onAudio]) <;>
    (repeat' split) <;> (try simp_all [fixed_onPort, fixed_onClock, fixed_onScanner, fixed_onAudio])

@[simp] theorem fixed_beginRewrite (s : State) : (beginRewrite s).fixed = s.fixed := by
  unfold beginRewrite
  try dsimp only
  (repeat' split) <;> (try simp [fixed_onPort, fixed_onClock, fixed_onScanner, fixed_onAudio]) <;>
    (repeat' split) <;> (try simp_all [fixed_onPort, fixed_onClock, fixed_onScanner, fixed_onAudio])

@[simp] theorem fixed_redraw (s : State) : (redraw s).fixed = s.fixed := by
  unfold redraw
  try dsimp only
  (repeat' split) <;> (try simp [fixed_onPort, fixed_onClock, fixed_onScanner, fixed_onAudio]) <;>
    (repeat' split) <;> (try simp_all [fixed_onPort, fixed_onClock, fixed_onScanner, fixed_onAudio])

@[simp] theorem fixed_openLine (card : Word) (s : State) : (openLine card s).fixed = s.fixed := by
  unfold openLine
  try dsimp only
  (repeat' split) <;> (try simp [fixed_onPort, fixed_onClock, fixed_onScanner, fixed_onAudio]) <;>
    (repeat' split) <;> (try simp_all [fixed_onPort, fixed_onClock, fixed_onScanner, fixed_onAudio])

@[simp] theorem fixed_endLine (s : State) : (endLine s).fixed = s.fixed := by
  unfold endLine
  try dsimp only
  (repeat' split) <;> (try simp [fixed_onPort, fixed_onClock, fixed_onScanner, fixed_onAudio]) <;>
    (repeat' split) <;> (try simp_all [fixed_onPort, fixed_onClock, fixed_onScanner, fixed_onAudio])

@[simp] theorem fixed_closeLine (s : State) : (closeLine s).fixed = s.fixed := by
  unfold closeLine
  try dsimp only
  (repeat' split) <;> (try simp [fixed_onPort, fixed_onClock, fixed_onScanner, fixed_onAudio]) <;>
    (repeat' split) <;> (try simp_all [fixed_onPort, fixed_onClock, fixed_onScanner, fixed_onAudio])

@[simp] theorem fixed_abortLine (s : State) : (abortLine s).fixed = s.fixed := by
  unfold abortLine
  try dsimp only
  (repeat' split) <;> (try simp [fixed_onPort, fixed_onClock, fixed_onScanner, fixed_onAudio]) <;>
    (repeat' split) <;> (try simp_all [fixed_onPort, fixed_onClock, fixed_onScanner, fixed_onAudio])

@[simp] theorem fixed_dropLine (s : State) : (dropLine s).fixed = s.fixed := by
  unfold dropLine
  try dsimp only
  (repeat' split) <;> (try simp [fixed_onPort, fixed_onClock, fixed_onScanner, fixed_onAudio]) <;>
    (repeat' split) <;> (try simp_all [fixed_onPort, fixed_onClock, fixed_onScanner, fixed_onAudio])

@[simp] theorem fixed_lineAdvance (s : State) : (lineAdvance s).fixed = s.fixed := by
  unfold lineAdvance
  try dsimp only
  (repeat' split) <;> (try simp [fixed_onPort, fixed_onClock, fixed_onScanner, fixed_onAudio]) <;>
    (repeat' split) <;> (try simp_all [fixed_onPort, fixed_onClock, fixed_onScanner, fixed_onAudio])

@[simp] theorem fixed_discardReads (s : State) : (discardReads s).fixed = s.fixed := by
  unfold discardReads
  refine fixed_onPort _ _ ?_ ?_ <;> (split <;> rfl)

@[simp] theorem fixed_dropDone (s : State) : (dropDone s).fixed = s.fixed := by
  unfold dropDone
  rw [fixed_onSpeech]
  refine fixed_onPort _ _ ?_ ?_ <;> (split <;> rfl)

@[simp] theorem fixed_markWords (ks : List Nat) (s : State) : (markWords ks s).fixed = s.fixed := by
  unfold markWords
  try dsimp only
  (repeat' split) <;> (try simp [fixed_onPort, fixed_onClock, fixed_onScanner, fixed_onAudio]) <;>
    (repeat' split) <;> (try simp_all [fixed_onPort, fixed_onClock, fixed_onScanner, fixed_onAudio])

@[simp] theorem fixed_reportUnspoken (s : State) : (reportUnspoken s).fixed = s.fixed := by
  unfold reportUnspoken
  try dsimp only
  (repeat' split) <;> (try simp [fixed_onPort, fixed_onClock, fixed_onScanner, fixed_onAudio]) <;>
    (repeat' split) <;> (try simp_all [fixed_onPort, fixed_onClock, fixed_onScanner, fixed_onAudio])

@[simp] theorem fixed_reportForced (n : Nat) (s : State) : (reportForced n s).fixed = s.fixed := by
  unfold reportForced
  try dsimp only
  (repeat' split) <;> (try simp [fixed_onPort, fixed_onClock, fixed_onScanner, fixed_onAudio]) <;>
    (repeat' split) <;> (try simp_all [fixed_onPort, fixed_onClock, fixed_onScanner, fixed_onAudio])

@[simp] theorem fixed_addWords (ws : List (List UnitRef)) (gapMs : Nat) (s : State) : (addWords ws gapMs s).fixed = s.fixed := by
  unfold addWords
  try dsimp only
  (repeat' split) <;> (try simp [fixed_onPort, fixed_onClock, fixed_onScanner, fixed_onAudio]) <;>
    (repeat' split) <;> (try simp_all [fixed_onPort, fixed_onClock, fixed_onScanner, fixed_onAudio])

@[simp] theorem fixed_planMore (ps : List Part) (s : State) : (planMore ps s).fixed = s.fixed := by
  induction ps generalizing s with
  | nil => rfl
  | cons p ps ih => unfold planMore; split <;> simp [ih]

@[simp] theorem fixed_absorbBad (s : State) : (absorbBad s).fixed = s.fixed := by
  unfold absorbBad
  try dsimp only
  (repeat' split) <;> (try simp [fixed_onPort, fixed_onClock, fixed_onScanner, fixed_onAudio]) <;>
    (repeat' split) <;> (try simp_all [fixed_onPort, fixed_onClock, fixed_onScanner, fixed_onAudio])

@[simp] theorem fixed_enterFill (s : State) : (enterFill s).fixed = s.fixed := by
  unfold enterFill
  try dsimp only
  (repeat' split) <;> (try simp [fixed_onPort, fixed_onClock, fixed_onScanner, fixed_onAudio]) <;>
    (repeat' split) <;> (try simp_all [fixed_onPort, fixed_onClock, fixed_onScanner, fixed_onAudio])

@[simp] theorem fixed_gatherMore (s : State) : (gatherMore s).fixed = s.fixed := by
  unfold gatherMore
  try dsimp only
  (repeat' split) <;> (try simp [fixed_onPort, fixed_onClock, fixed_onScanner, fixed_onAudio]) <;>
    (repeat' split) <;> (try simp_all [fixed_onPort, fixed_onClock, fixed_onScanner, fixed_onAudio])

@[simp] theorem fixed_beginPhrase (n : Nat) (replayed : Bool) (s : State) : (beginPhrase n replayed s).fixed = s.fixed := by
  unfold beginPhrase
  try dsimp only
  (repeat' split) <;> (try simp [fixed_onPort, fixed_onClock, fixed_onScanner, fixed_onAudio]) <;>
    (repeat' split) <;> (try simp_all [fixed_onPort, fixed_onClock, fixed_onScanner, fixed_onAudio])

@[simp] theorem fixed_awaitEnd (s : State) : (awaitEnd s).fixed = s.fixed := by
  unfold awaitEnd
  try dsimp only
  (repeat' split) <;> (try simp [fixed_onPort, fixed_onClock, fixed_onScanner, fixed_onAudio]) <;>
    (repeat' split) <;> (try simp_all [fixed_onPort, fixed_onClock, fixed_onScanner, fixed_onAudio])

@[simp] theorem fixed_beginPlan (s : State) : (beginPlan s).fixed = s.fixed := by
  unfold beginPlan
  try dsimp only
  (repeat' split) <;> (try simp [fixed_onPort, fixed_onClock, fixed_onScanner, fixed_onAudio]) <;>
    (repeat' split) <;> (try simp_all [fixed_onPort, fixed_onClock, fixed_onScanner, fixed_onAudio])

@[simp] theorem fixed_makePlan (s : State) : (makePlan s).fixed = s.fixed := by
  unfold makePlan
  try dsimp only
  (repeat' split) <;> (try simp [fixed_onPort, fixed_onClock, fixed_onScanner, fixed_onAudio]) <;>
    (repeat' split) <;> (try simp_all [fixed_onPort, fixed_onClock, fixed_onScanner, fixed_onAudio])

@[simp] theorem fixed_startHead (s : State) : (startHead s).fixed = s.fixed := by
  unfold startHead
  try dsimp only
  (repeat' split) <;> (try simp [fixed_onPort, fixed_onClock, fixed_onScanner, fixed_onAudio]) <;>
    (repeat' split) <;> (try simp_all [fixed_onPort, fixed_onClock, fixed_onScanner, fixed_onAudio])

@[simp] theorem fixed_tryStart (s : State) : (tryStart s).fixed = s.fixed := by
  unfold tryStart
  try dsimp only
  (repeat' split) <;> (try simp [fixed_onPort, fixed_onClock, fixed_onScanner, fixed_onAudio]) <;>
    (repeat' split) <;> (try simp_all [fixed_onPort, fixed_onClock, fixed_onScanner, fixed_onAudio])

@[simp] theorem fixed_finishGap (s : State) : (finishGap s).fixed = s.fixed := by
  unfold finishGap
  try dsimp only
  (repeat' split) <;> (try simp [fixed_onPort, fixed_onClock, fixed_onScanner, fixed_onAudio]) <;>
    (repeat' split) <;> (try simp_all [fixed_onPort, fixed_onClock, fixed_onScanner, fixed_onAudio])

@[simp] theorem fixed_enterGap (kind : GapKind) (n : Nat) (s : State) : (enterGap kind n s).fixed = s.fixed := by
  unfold enterGap
  try dsimp only
  (repeat' split) <;> (try simp [fixed_onPort, fixed_onClock, fixed_onScanner, fixed_onAudio]) <;>
    (repeat' split) <;> (try simp_all [fixed_onPort, fixed_onClock, fixed_onScanner, fixed_onAudio])

@[simp] theorem fixed_trailingPause (s : State) : (trailingPause s).fixed = s.fixed := by
  unfold trailingPause
  try dsimp only
  (repeat' split) <;> (try simp [fixed_onPort, fixed_onClock, fixed_onScanner, fixed_onAudio]) <;>
    (repeat' split) <;> (try simp_all [fixed_onPort, fixed_onClock, fixed_onScanner, fixed_onAudio])

@[simp] theorem fixed_place (k : UtteranceKind) (ps : List Part) (s : State) : (place k ps s).1.fixed = s.fixed := by
  unfold place
  try dsimp only
  (repeat' split) <;> (try simp [fixed_onPort, fixed_onClock, fixed_onScanner, fixed_onAudio]) <;>
    (repeat' split) <;> (try simp_all [fixed_onPort, fixed_onClock, fixed_onScanner, fixed_onAudio])

@[simp] theorem fixed_placeLoose (kind : UtteranceKind) (parts : List Part) (s : State) : (placeLoose kind parts s).fixed = s.fixed := by
  unfold placeLoose
  try dsimp only
  (repeat' split) <;> (try simp [fixed_onPort, fixed_onClock, fixed_onScanner, fixed_onAudio]) <;>
    (repeat' split) <;> (try simp_all [fixed_onPort, fixed_onClock, fixed_onScanner, fixed_onAudio])

@[simp] theorem fixed_cancelHandoff (s : State) : (cancelHandoff s).fixed = s.fixed := by
  unfold cancelHandoff
  try dsimp only
  (repeat' split) <;> (try simp [fixed_onPort, fixed_onClock, fixed_onScanner, fixed_onAudio]) <;>
    (repeat' split) <;> (try simp_all [fixed_onPort, fixed_onClock, fixed_onScanner, fixed_onAudio])

@[simp] theorem fixed_cutPlaying (s : State) : (cutPlaying s).fixed = s.fixed := by
  unfold cutPlaying
  try dsimp only
  (repeat' split) <;> (try simp [fixed_onPort, fixed_onClock, fixed_onScanner, fixed_onAudio]) <;>
    (repeat' split) <;> (try simp_all [fixed_onPort, fixed_onClock, fixed_onScanner, fixed_onAudio])

@[simp] theorem fixed_cutHeld (s : State) : (cutHeld s).fixed = s.fixed := by
  unfold cutHeld
  try dsimp only
  (repeat' split) <;> (try simp [fixed_onPort, fixed_onClock, fixed_onScanner, fixed_onAudio]) <;>
    (repeat' split) <;> (try simp_all [fixed_onPort, fixed_onClock, fixed_onScanner, fixed_onAudio])

@[simp] theorem fixed_cutQueued (seq : Nat) (s : State) : (cutQueued seq s).fixed = s.fixed := by
  unfold cutQueued
  try dsimp only
  (repeat' split) <;> (try simp [fixed_onPort, fixed_onClock, fixed_onScanner, fixed_onAudio]) <;>
    (repeat' split) <;> (try simp_all [fixed_onPort, fixed_onClock, fixed_onScanner, fixed_onAudio])

@[simp] theorem fixed_cut (seq : Nat) (s : State) : (cut seq s).fixed = s.fixed := by
  unfold cut
  try dsimp only
  (repeat' split) <;> (try simp [fixed_onPort, fixed_onClock, fixed_onScanner, fixed_onAudio]) <;>
    (repeat' split) <;> (try simp_all [fixed_onPort, fixed_onClock, fixed_onScanner, fixed_onAudio])

@[simp] theorem fixed_flushSpeech (s : State) : (flushSpeech s).fixed = s.fixed := by
  unfold flushSpeech
  try dsimp only
  (repeat' split) <;> (try simp [fixed_onPort, fixed_onClock, fixed_onScanner, fixed_onAudio]) <;>
    (repeat' split) <;> (try simp_all [fixed_onPort, fixed_onClock, fixed_onScanner, fixed_onAudio])

@[simp] theorem fixed_endSpeech (s : State) : (endSpeech s).fixed = s.fixed := by simp [endSpeech]

@[simp] theorem fixed_freezeRecord (s : State) : (freezeRecord s).fixed = s.fixed := by
  unfold freezeRecord
  try dsimp only
  (repeat' split) <;> (try simp [fixed_onPort, fixed_onClock, fixed_onScanner, fixed_onAudio]) <;>
    (repeat' split) <;> (try simp_all [fixed_onPort, fixed_onClock, fixed_onScanner, fixed_onAudio])

@[simp] theorem fixed_engineIdle (s : State) : (engineIdle s).fixed = s.fixed := by
  unfold engineIdle
  try dsimp only
  (repeat' split) <;> (try simp [fixed_onPort, fixed_onClock, fixed_onScanner, fixed_onAudio]) <;>
    (repeat' split) <;> (try simp_all [fixed_onPort, fixed_onClock, fixed_onScanner, fixed_onAudio])

@[simp] theorem fixed_walkerAbort (s : State) : (walkerAbort s).fixed = s.fixed := by
  unfold walkerAbort
  split <;> first | rfl | exact (fixed_onPort _ _ rfl rfl).trans rfl

@[simp] theorem fixed_presentationEnded (final : Option FinalTry) (s : State) : (presentationEnded final s).fixed = s.fixed := by
  unfold presentationEnded
  try dsimp only
  (repeat' split) <;> (try simp [fixed_onPort, fixed_onClock, fixed_onScanner, fixed_onAudio]) <;>
    (repeat' split) <;> (try simp_all [fixed_onPort, fixed_onClock, fixed_onScanner, fixed_onAudio])

@[simp] theorem fixed_presentStart (cur : Current) (s : State) : (presentStart cur s).fixed = s.fixed := by
  unfold presentStart
  try dsimp only
  (repeat' split) <;> (try simp [fixed_onPort, fixed_onClock, fixed_onScanner, fixed_onAudio]) <;>
    (repeat' split) <;> (try simp_all [fixed_onPort, fixed_onClock, fixed_onScanner, fixed_onAudio])

@[simp] theorem fixed_presentSlot (s : State) : (presentSlot s).fixed = s.fixed := by
  unfold presentSlot
  try dsimp only
  (repeat' split) <;> (try simp [fixed_onPort, fixed_onClock, fixed_onScanner, fixed_onAudio]) <;>
    (repeat' split) <;> (try simp_all [fixed_onPort, fixed_onClock, fixed_onScanner, fixed_onAudio])

@[simp] theorem fixed_presentReview (s : State) : (presentReview s).fixed = s.fixed := by
  unfold presentReview
  try dsimp only
  (repeat' split) <;> (try simp [fixed_onPort, fixed_onClock, fixed_onScanner, fixed_onAudio]) <;>
    (repeat' split) <;> (try simp_all [fixed_onPort, fixed_onClock, fixed_onScanner, fixed_onAudio])

@[simp] theorem fixed_beginClosing (why : CloseWhy) (s : State) : (beginClosing why s).fixed = s.fixed := by
  unfold beginClosing
  try dsimp only
  (repeat' split) <;> (try simp [fixed_onPort, fixed_onClock, fixed_onScanner, fixed_onAudio]) <;>
    (repeat' split) <;> (try simp_all [fixed_onPort, fixed_onClock, fixed_onScanner, fixed_onAudio])

@[simp] theorem fixed_closeEnded (s : State) : (closeEnded s).fixed = s.fixed := by
  unfold closeEnded
  try dsimp only
  (repeat' split) <;> (try simp [fixed_onPort, fixed_onClock, fixed_onScanner, fixed_onAudio]) <;>
    (repeat' split) <;> (try simp_all [fixed_onPort, fixed_onClock, fixed_onScanner, fixed_onAudio])

@[simp] theorem fixed_starve (resumed : Bool) (s : State) : (starve resumed s).fixed = s.fixed := by
  unfold starve
  try dsimp only
  (repeat' split) <;> (try simp [fixed_onPort, fixed_onClock, fixed_onScanner, fixed_onAudio]) <;>
    (repeat' split) <;> (try simp_all [fixed_onPort, fixed_onClock, fixed_onScanner, fixed_onAudio])

@[simp] theorem fixed_choose (resumed : Bool) (s : State) : (choose resumed s).fixed = s.fixed := by
  unfold choose
  try dsimp only
  (repeat' split) <;> (try simp [fixed_onPort, fixed_onClock, fixed_onScanner, fixed_onAudio]) <;>
    (repeat' split) <;> (try simp_all [fixed_onPort, fixed_onClock, fixed_onScanner, fixed_onAudio])

@[simp] theorem fixed_walkerReport (s : State) : (walkerReport s).fixed = s.fixed := by
  unfold walkerReport
  try dsimp only
  (repeat' split) <;> (try simp [fixed_onPort, fixed_onClock, fixed_onScanner, fixed_onAudio]) <;>
    (repeat' split) <;> (try simp_all [fixed_onPort, fixed_onClock, fixed_onScanner, fixed_onAudio])

@[simp] theorem fixed_stopLesson (why : CloseWhy) (s : State) : (stopLesson why s).fixed = s.fixed := by
  unfold stopLesson
  try dsimp only
  (repeat' split) <;> (try simp [fixed_onPort, fixed_onClock, fixed_onScanner, fixed_onAudio]) <;>
    (repeat' split) <;> (try simp_all [fixed_onPort, fixed_onClock, fixed_onScanner, fixed_onAudio])

@[simp] theorem fixed_giveBackNext (why : CloseWhy) (s : State) : (giveBackNext why s).fixed = s.fixed := by
  unfold giveBackNext
  try dsimp only
  (repeat' split) <;> (try simp [fixed_onPort, fixed_onClock, fixed_onScanner, fixed_onAudio]) <;>
    (repeat' split) <;> (try simp_all [fixed_onPort, fixed_onClock, fixed_onScanner, fixed_onAudio])

@[simp] theorem fixed_enterEnded (s : State) : (enterEnded s).fixed = s.fixed := by
  unfold enterEnded
  try dsimp only
  (repeat' split) <;> (try simp [fixed_onPort, fixed_onClock, fixed_onScanner, fixed_onAudio]) <;>
    (repeat' split) <;> (try simp_all [fixed_onPort, fixed_onClock, fixed_onScanner, fixed_onAudio])

@[simp] theorem fixed_enterFaulted (code : FaultCode) (ref : Word) (detail : Word) (s : State) : (enterFaulted code ref detail s).fixed = s.fixed := by
  unfold enterFaulted
  try dsimp only
  (repeat' split) <;> (try simp [fixed_onPort, fixed_onClock, fixed_onScanner, fixed_onAudio]) <;>
    (repeat' split) <;> (try simp_all [fixed_onPort, fixed_onClock, fixed_onScanner, fixed_onAudio])

@[simp] theorem fixed_enterStopped (s : State) : (enterStopped s).fixed = s.fixed := by
  unfold enterStopped
  try dsimp only
  (repeat' split) <;> (try simp [fixed_onPort, fixed_onClock, fixed_onScanner, fixed_onAudio]) <;>
    (repeat' split) <;> (try simp_all [fixed_onPort, fixed_onClock, fixed_onScanner, fixed_onAudio])

@[simp] theorem fixed_copiesNext (why : CloseWhy) (s : State) : (copiesNext why s).fixed = s.fixed := by
  unfold copiesNext
  try dsimp only
  (repeat' split) <;> (try simp [fixed_onPort, fixed_onClock, fixed_onScanner, fixed_onAudio]) <;>
    (repeat' split) <;> (try simp_all [fixed_onPort, fixed_onClock, fixed_onScanner, fixed_onAudio])

@[simp] theorem fixed_startEndChain (s : State) : (startEndChain s).fixed = s.fixed := by
  unfold startEndChain
  try dsimp only
  (repeat' split) <;> (try simp [fixed_onPort, fixed_onClock, fixed_onScanner, fixed_onAudio]) <;>
    (repeat' split) <;> (try simp_all [fixed_onPort, fixed_onClock, fixed_onScanner, fixed_onAudio])

@[simp] theorem fixed_lcAdvance (s : State) : (lcAdvance s).fixed = s.fixed := by
  unfold lcAdvance
  try dsimp only
  (repeat' split) <;> (try simp [fixed_onPort, fixed_onClock, fixed_onScanner, fixed_onAudio]) <;>
    (repeat' split) <;> (try simp_all [fixed_onPort, fixed_onClock, fixed_onScanner, fixed_onAudio])

@[simp] theorem fixed_cardGivenBack (s : State) : (cardGivenBack s).fixed = s.fixed := by
  unfold cardGivenBack
  try dsimp only
  (repeat' split) <;> (try simp [fixed_onPort, fixed_onClock, fixed_onScanner, fixed_onAudio]) <;>
    (repeat' split) <;> (try simp_all [fixed_onPort, fixed_onClock, fixed_onScanner, fixed_onAudio])

@[simp] theorem fixed_endHeaderDone (s : State) : (endHeaderDone s).fixed = s.fixed := by
  unfold endHeaderDone
  try dsimp only
  (repeat' split) <;> (try simp [fixed_onPort, fixed_onClock, fixed_onScanner, fixed_onAudio]) <;>
    (repeat' split) <;> (try simp_all [fixed_onPort, fixed_onClock, fixed_onScanner, fixed_onAudio])

@[simp] theorem fixed_endDone (s : State) : (endDone s).fixed = s.fixed := by
  unfold endDone
  try dsimp only
  (repeat' split) <;> (try simp [fixed_onPort, fixed_onClock, fixed_onScanner, fixed_onAudio]) <;>
    (repeat' split) <;> (try simp_all [fixed_onPort, fixed_onClock, fixed_onScanner, fixed_onAudio])

@[simp] theorem fixed_lcAfter (a : LcAfter) (s : State) : (lcAfter a s).fixed = s.fixed := by
  unfold lcAfter
  try dsimp only
  (repeat' split) <;> (try simp [fixed_onPort, fixed_onClock, fixed_onScanner, fixed_onAudio]) <;>
    (repeat' split) <;> (try simp_all [fixed_onPort, fixed_onClock, fixed_onScanner, fixed_onAudio])

@[simp] theorem fixed_discardAll (s : State) : (discardAll s).fixed = s.fixed := by
  unfold discardAll
  try dsimp only
  (repeat' split) <;> (try simp [fixed_onPort, fixed_onClock, fixed_onScanner, fixed_onAudio]) <;>
    (repeat' split) <;> (try simp_all [fixed_onPort, fixed_onClock, fixed_onScanner, fixed_onAudio])

@[simp] theorem fixed_busFault (s : State) : (busFault s).fixed = s.fixed := by
  unfold busFault setEvent
  refine (fixed_onPort _ _ rfl rfl).trans ((fixed_onPort _ _ rfl rfl).trans ?_)
  simp [fixed_onScanner]

@[simp] theorem fixed_cutPrompt (s : State) : (cutPrompt s).fixed = s.fixed := by
  unfold cutPrompt
  try dsimp only
  (repeat' split) <;> (try simp [fixed_onPort, fixed_onClock, fixed_onScanner, fixed_onAudio]) <;>
    (repeat' split) <;> (try simp_all [fixed_onPort, fixed_onClock, fixed_onScanner, fixed_onAudio])

@[simp] theorem fixed_placePrompt (parts : List Part) (s : State) : (placePrompt parts s).fixed = s.fixed := by
  unfold placePrompt
  try dsimp only
  (repeat' split) <;> (try simp [fixed_onPort, fixed_onClock, fixed_onScanner, fixed_onAudio]) <;>
    (repeat' split) <;> (try simp_all [fixed_onPort, fixed_onClock, fixed_onScanner, fixed_onAudio])

@[simp] theorem fixed_armReprompt (s : State) : (armReprompt s).fixed = s.fixed := by
  unfold armReprompt
  try dsimp only
  (repeat' split) <;> (try simp [fixed_onPort, fixed_onClock, fixed_onScanner, fixed_onAudio]) <;>
    (repeat' split) <;> (try simp_all [fixed_onPort, fixed_onClock, fixed_onScanner, fixed_onAudio])

@[simp] theorem fixed_enterListening (s : State) : (enterListening s).fixed = s.fixed := by
  unfold enterListening
  try dsimp only
  (repeat' split) <;> (try simp [fixed_onPort, fixed_onClock, fixed_onScanner, fixed_onAudio]) <;>
    (repeat' split) <;> (try simp_all [fixed_onPort, fixed_onClock, fixed_onScanner, fixed_onAudio])

@[simp] theorem fixed_startTry (tryNo : Nat) (s : State) : (startTry tryNo s).fixed = s.fixed := by
  unfold startTry
  try dsimp only
  (repeat' split) <;> (try simp [fixed_onPort, fixed_onClock, fixed_onScanner, fixed_onAudio]) <;>
    (repeat' split) <;> (try simp_all [fixed_onPort, fixed_onClock, fixed_onScanner, fixed_onAudio])

@[simp] theorem fixed_handOverWord (card : Word) (img : WordImage) (review : Bool) (s : State) : (handOverWord card img review s).fixed = s.fixed := by
  unfold handOverWord
  try dsimp only
  (repeat' split) <;> (try simp [fixed_onPort, fixed_onClock, fixed_onScanner, fixed_onAudio]) <;>
    (repeat' split) <;> (try simp_all [fixed_onPort, fixed_onClock, fixed_onScanner, fixed_onAudio])

@[simp] theorem fixed_placeSay (s : State) : (placeSay s).fixed = s.fixed := by
  unfold placeSay
  try dsimp only
  (repeat' split) <;> (try simp [fixed_onPort, fixed_onClock, fixed_onScanner, fixed_onAudio]) <;>
    (repeat' split) <;> (try simp_all [fixed_onPort, fixed_onClock, fixed_onScanner, fixed_onAudio])

@[simp] theorem fixed_handOverSay (card : Word) (ref : Word) (s : State) : (handOverSay card ref s).fixed = s.fixed := by
  unfold handOverSay
  try dsimp only
  (repeat' split) <;> (try simp [fixed_onPort, fixed_onClock, fixed_onScanner, fixed_onAudio]) <;>
    (repeat' split) <;> (try simp_all [fixed_onPort, fixed_onClock, fixed_onScanner, fixed_onAudio])

@[simp] theorem fixed_placeFeedback (s : State) : (placeFeedback s).fixed = s.fixed := by
  unfold placeFeedback
  try dsimp only
  (repeat' split) <;> (try simp [fixed_onPort, fixed_onClock, fixed_onScanner, fixed_onAudio]) <;>
    (repeat' split) <;> (try simp_all [fixed_onPort, fixed_onClock, fixed_onScanner, fixed_onAudio])

@[simp] theorem fixed_verdict (v : Verdict) (j : Judged) (s : State) : (verdict v j s).fixed = s.fixed := by
  unfold verdict
  try dsimp only
  (repeat' split) <;> (try simp [fixed_onPort, fixed_onClock, fixed_onScanner, fixed_onAudio]) <;>
    (repeat' split) <;> (try simp_all [fixed_onPort, fixed_onClock, fixed_onScanner, fixed_onAudio])

@[simp] theorem fixed_verdictUnjudged (v : Verdict) (s : State) : (verdictUnjudged v s).fixed = s.fixed := by
  unfold verdictUnjudged
  try dsimp only
  (repeat' split) <;> (try simp [fixed_onPort, fixed_onClock, fixed_onScanner, fixed_onAudio]) <;>
    (repeat' split) <;> (try simp_all [fixed_onPort, fixed_onClock, fixed_onScanner, fixed_onAudio])

@[simp] theorem fixed_verdictLive (alt : Nat) (s : State) : (verdictLive alt s).fixed = s.fixed := by
  unfold verdictLive
  try dsimp only
  (repeat' split) <;> (try simp [fixed_onPort, fixed_onClock, fixed_onScanner, fixed_onAudio]) <;>
    (repeat' split) <;> (try simp_all [fixed_onPort, fixed_onClock, fixed_onScanner, fixed_onAudio])

@[simp] theorem fixed_echoLetter (c : Nat) (s : State) : (echoLetter c s).fixed = s.fixed := by
  unfold echoLetter
  try dsimp only
  (repeat' split) <;> (try simp [fixed_onPort, fixed_onClock, fixed_onScanner, fixed_onAudio]) <;>
    (repeat' split) <;> (try simp_all [fixed_onPort, fixed_onClock, fixed_onScanner, fixed_onAudio])

@[simp] theorem fixed_placeCue (n : Nat) (s : State) : (placeCue n s).fixed = s.fixed := by
  unfold placeCue
  try dsimp only
  (repeat' split) <;> (try simp [fixed_onPort, fixed_onClock, fixed_onScanner, fixed_onAudio]) <;>
    (repeat' split) <;> (try simp_all [fixed_onPort, fixed_onClock, fixed_onScanner, fixed_onAudio])

@[simp] theorem fixed_captureLetter (s : State) : (captureLetter s).fixed = s.fixed := by
  unfold captureLetter
  try dsimp only
  (repeat' split) <;> (try simp [fixed_onPort, fixed_onClock, fixed_onScanner, fixed_onAudio]) <;>
    (repeat' split) <;> (try simp_all [fixed_onPort, fixed_onClock, fixed_onScanner, fixed_onAudio])

@[simp] theorem fixed_appendLetter (c : Nat) (s : State) : (appendLetter c s).fixed = s.fixed := by
  unfold appendLetter
  try dsimp only
  (repeat' split) <;> (try simp [fixed_onPort, fixed_onClock, fixed_onScanner, fixed_onAudio]) <;>
    (repeat' split) <;> (try simp_all [fixed_onPort, fixed_onClock, fixed_onScanner, fixed_onAudio])

@[simp] theorem fixed_wholeLetter (c : Nat) (s : State) : (wholeLetter c s).fixed = s.fixed := by
  unfold wholeLetter
  try dsimp only
  (repeat' split) <;> (try simp [fixed_onPort, fixed_onClock, fixed_onScanner, fixed_onAudio]) <;>
    (repeat' split) <;> (try simp_all [fixed_onPort, fixed_onClock, fixed_onScanner, fixed_onAudio])

@[simp] theorem fixed_wholeBack (s : State) : (wholeBack s).fixed = s.fixed := by
  unfold wholeBack
  try dsimp only
  (repeat' split) <;> (try simp [fixed_onPort, fixed_onClock, fixed_onScanner, fixed_onAudio]) <;>
    (repeat' split) <;> (try simp_all [fixed_onPort, fixed_onClock, fixed_onScanner, fixed_onAudio])

@[simp] theorem fixed_revealLetter (alt : Nat) (p : Nat) (s : State) : (revealLetter alt p s).fixed = s.fixed := by
  unfold revealLetter
  try dsimp only
  (repeat' split) <;> (try simp [fixed_onPort, fixed_onClock, fixed_onScanner, fixed_onAudio]) <;>
    (repeat' split) <;> (try simp_all [fixed_onPort, fixed_onClock, fixed_onScanner, fixed_onAudio])

@[simp] theorem fixed_slip (s : State) : (slip s).fixed = s.fixed := by
  unfold slip
  try dsimp only
  (repeat' split) <;> (try simp [fixed_onPort, fixed_onClock, fixed_onScanner, fixed_onAudio]) <;>
    (repeat' split) <;> (try simp_all [fixed_onPort, fixed_onClock, fixed_onScanner, fixed_onAudio])

@[simp] theorem fixed_afterAccepted (s : State) : (afterAccepted s).fixed = s.fixed := by
  unfold afterAccepted
  try dsimp only
  (repeat' split) <;> (try simp [fixed_onPort, fixed_onClock, fixed_onScanner, fixed_onAudio]) <;>
    (repeat' split) <;> (try simp_all [fixed_onPort, fixed_onClock, fixed_onScanner, fixed_onAudio])

@[simp] theorem fixed_liveLetter (c : Nat) (s : State) : (liveLetter c s).fixed = s.fixed := by
  unfold liveLetter
  try dsimp only
  (repeat' split) <;> (try simp [fixed_onPort, fixed_onClock, fixed_onScanner, fixed_onAudio]) <;>
    (repeat' split) <;> (try simp_all [fixed_onPort, fixed_onClock, fixed_onScanner, fixed_onAudio])

@[simp] theorem fixed_letterKey (c : Nat) (s : State) : (letterKey c s).fixed = s.fixed := by
  unfold letterKey
  try dsimp only
  (repeat' split) <;> (try simp [fixed_onPort, fixed_onClock, fixed_onScanner, fixed_onAudio]) <;>
    (repeat' split) <;> (try simp_all [fixed_onPort, fixed_onClock, fixed_onScanner, fixed_onAudio])

@[simp] theorem fixed_backKey (s : State) : (backKey s).fixed = s.fixed := by
  unfold backKey
  try dsimp only
  (repeat' split) <;> (try simp [fixed_onPort, fixed_onClock, fixed_onScanner, fixed_onAudio]) <;>
    (repeat' split) <;> (try simp_all [fixed_onPort, fixed_onClock, fixed_onScanner, fixed_onAudio])

@[simp] theorem fixed_hintKey (s : State) : (hintKey s).fixed = s.fixed := by
  unfold hintKey
  try dsimp only
  (repeat' split) <;> (try simp [fixed_onPort, fixed_onClock, fixed_onScanner, fixed_onAudio]) <;>
    (repeat' split) <;> (try simp_all [fixed_onPort, fixed_onClock, fixed_onScanner, fixed_onAudio])

@[simp] theorem fixed_countReplay (s : State) : (countReplay s).fixed = s.fixed := by
  unfold countReplay
  try dsimp only
  (repeat' split) <;> (try simp [fixed_onPort, fixed_onClock, fixed_onScanner, fixed_onAudio]) <;>
    (repeat' split) <;> (try simp_all [fixed_onPort, fixed_onClock, fixed_onScanner, fixed_onAudio])

@[simp] theorem fixed_repeatKey (s : State) : (repeatKey s).fixed = s.fixed := by
  unfold repeatKey
  try dsimp only
  (repeat' split) <;> (try simp [fixed_onPort, fixed_onClock, fixed_onScanner, fixed_onAudio]) <;>
    (repeat' split) <;> (try simp_all [fixed_onPort, fixed_onClock, fixed_onScanner, fixed_onAudio])

@[simp] theorem fixed_submit (s : State) : (submit s).fixed = s.fixed := by
  unfold submit
  try dsimp only
  (repeat' split) <;> (try simp [fixed_onPort, fixed_onClock, fixed_onScanner, fixed_onAudio]) <;>
    (repeat' split) <;> (try simp_all [fixed_onPort, fixed_onClock, fixed_onScanner, fixed_onAudio])

@[simp] theorem fixed_enterKey (s : State) : (enterKey s).fixed = s.fixed := by
  unfold enterKey
  try dsimp only
  (repeat' split) <;> (try simp [fixed_onPort, fixed_onClock, fixed_onScanner, fixed_onAudio]) <;>
    (repeat' split) <;> (try simp_all [fixed_onPort, fixed_onClock, fixed_onScanner, fixed_onAudio])

@[simp] theorem fixed_keyEffect (meaning : Nat) (s : State) : (keyEffect meaning s).fixed = s.fixed := by
  unfold keyEffect
  try dsimp only
  (repeat' split) <;> (try simp [fixed_onPort, fixed_onClock, fixed_onScanner, fixed_onAudio]) <;>
    (repeat' split) <;> (try simp_all [fixed_onPort, fixed_onClock, fixed_onScanner, fixed_onAudio])

@[simp] theorem fixed_listenKey (meaning : Nat) (s : State) : (listenKey meaning s).fixed = s.fixed := by
  unfold listenKey
  try dsimp only
  (repeat' split) <;> (try simp [fixed_onPort, fixed_onClock, fixed_onScanner, fixed_onAudio]) <;>
    (repeat' split) <;> (try simp_all [fixed_onPort, fixed_onClock, fixed_onScanner, fixed_onAudio])

@[simp] theorem fixed_bargeCut (s : State) : (bargeCut s).fixed = s.fixed := by
  unfold bargeCut
  try dsimp only
  (repeat' split) <;> (try simp [fixed_onPort, fixed_onClock, fixed_onScanner, fixed_onAudio]) <;>
    (repeat' split) <;> (try simp_all [fixed_onPort, fixed_onClock, fixed_onScanner, fixed_onAudio])

@[simp] theorem fixed_bargeKey (meaning : Nat) (s : State) : (bargeKey meaning s).fixed = s.fixed := by
  unfold bargeKey
  try dsimp only
  (repeat' split) <;> (try simp [fixed_onPort, fixed_onClock, fixed_onScanner, fixed_onAudio]) <;>
    (repeat' split) <;> (try simp_all [fixed_onPort, fixed_onClock, fixed_onScanner, fixed_onAudio])

@[simp] theorem fixed_sayEnded (s : State) : (sayEnded s).fixed = s.fixed := by
  unfold sayEnded
  try dsimp only
  (repeat' split) <;> (try simp [fixed_onPort, fixed_onClock, fixed_onScanner, fixed_onAudio]) <;>
    (repeat' split) <;> (try simp_all [fixed_onPort, fixed_onClock, fixed_onScanner, fixed_onAudio])

@[simp] theorem fixed_cutSay (s : State) : (cutSay s).fixed = s.fixed := by
  unfold cutSay
  try dsimp only
  (repeat' split) <;> (try simp [fixed_onPort, fixed_onClock, fixed_onScanner, fixed_onAudio]) <;>
    (repeat' split) <;> (try simp_all [fixed_onPort, fixed_onClock, fixed_onScanner, fixed_onAudio])

@[simp] theorem fixed_speakingKey (meaning : Nat) (s : State) : (speakingKey meaning s).fixed = s.fixed := by
  unfold speakingKey
  try dsimp only
  (repeat' split) <;> (try simp [fixed_onPort, fixed_onClock, fixed_onScanner, fixed_onAudio]) <;>
    (repeat' split) <;> (try simp_all [fixed_onPort, fixed_onClock, fixed_onScanner, fixed_onAudio])

@[simp] theorem fixed_promptingKey (meaning : Nat) (s : State) : (promptingKey meaning s).fixed = s.fixed := by
  unfold promptingKey
  try dsimp only
  (repeat' split) <;> (try simp [fixed_onPort, fixed_onClock, fixed_onScanner, fixed_onAudio]) <;>
    (repeat' split) <;> (try simp_all [fixed_onPort, fixed_onClock, fixed_onScanner, fixed_onAudio])

@[simp] theorem fixed_headKey (meaning : Nat) (s : State) : (headKey meaning s).fixed = s.fixed := by
  unfold headKey
  try dsimp only
  (repeat' split) <;> (try simp [fixed_onPort, fixed_onClock, fixed_onScanner, fixed_onAudio]) <;>
    (repeat' split) <;> (try simp_all [fixed_onPort, fixed_onClock, fixed_onScanner, fixed_onAudio])

@[simp] theorem fixed_promptDone (s : State) : (promptDone s).fixed = s.fixed := by
  unfold promptDone
  try dsimp only
  (repeat' split) <;> (try simp [fixed_onPort, fixed_onClock, fixed_onScanner, fixed_onAudio]) <;>
    (repeat' split) <;> (try simp_all [fixed_onPort, fixed_onClock, fixed_onScanner, fixed_onAudio])

@[simp] theorem fixed_feedbackDone (s : State) : (feedbackDone s).fixed = s.fixed := by
  unfold feedbackDone
  try dsimp only
  (repeat' split) <;> (try simp [fixed_onPort, fixed_onClock, fixed_onScanner, fixed_onAudio]) <;>
    (repeat' split) <;> (try simp_all [fixed_onPort, fixed_onClock, fixed_onScanner, fixed_onAudio])

@[simp] theorem fixed_promptOver (seq : Nat) (s : State) : (promptOver seq s).fixed = s.fixed := by
  unfold promptOver
  split <;> simp

@[simp] theorem fixed_utteranceDone (seq : Nat) (s : State) : (utteranceDone seq s).fixed = s.fixed := by
  unfold utteranceDone
  try dsimp only
  (repeat' split) <;> (try simp [fixed_onPort, fixed_onClock, fixed_onScanner, fixed_onAudio]) <;>
    (repeat' split) <;> (try simp_all [fixed_onPort, fixed_onClock, fixed_onScanner, fixed_onAudio])

@[simp] theorem fixed_repromptListening (s : State) : (repromptListening s).fixed = s.fixed := by
  unfold repromptListening
  try dsimp only
  (repeat' split) <;> (try simp [fixed_onPort, fixed_onClock, fixed_onScanner, fixed_onAudio]) <;>
    (repeat' split) <;> (try simp_all [fixed_onPort, fixed_onClock, fixed_onScanner, fixed_onAudio])

@[simp] theorem fixed_repromptExpired (s : State) : (repromptExpired s).fixed = s.fixed := by
  unfold repromptExpired
  try dsimp only
  (repeat' split) <;> (try simp [fixed_onPort, fixed_onClock, fixed_onScanner, fixed_onAudio]) <;>
    (repeat' split) <;> (try simp_all [fixed_onPort, fixed_onClock, fixed_onScanner, fixed_onAudio])

@[simp] theorem fixed_settleExpired (s : State) : (settleExpired s).fixed = s.fixed := by
  unfold settleExpired
  try dsimp only
  (repeat' split) <;> (try simp [fixed_onPort, fixed_onClock, fixed_onScanner, fixed_onAudio]) <;>
    (repeat' split) <;> (try simp_all [fixed_onPort, fixed_onClock, fixed_onScanner, fixed_onAudio])

@[simp] theorem fixed_judgingDone (v : Verdict) (j : Judged) (s : State) : (judgingDone v j s).fixed = s.fixed := by
  unfold judgingDone
  try dsimp only
  (repeat' split) <;> (try simp [fixed_onPort, fixed_onClock, fixed_onScanner, fixed_onAudio]) <;>
    (repeat' split) <;> (try simp_all [fixed_onPort, fixed_onClock, fixed_onScanner, fixed_onAudio])

@[simp] theorem fixed_suspend (s : State) : (suspend s).fixed = s.fixed := by
  unfold suspend
  try dsimp only
  (repeat' split) <;> (try simp [fixed_onPort, fixed_onClock, fixed_onScanner, fixed_onAudio]) <;>
    (repeat' split) <;> (try simp_all [fixed_onPort, fixed_onClock, fixed_onScanner, fixed_onAudio])

@[simp] theorem fixed_resumePlacement (left : AttemptState) (s : State) : (resumePlacement left s).fixed = s.fixed := by
  unfold resumePlacement
  try dsimp only
  (repeat' split) <;> (try simp [fixed_onPort, fixed_onClock, fixed_onScanner, fixed_onAudio]) <;>
    (repeat' split) <;> (try simp_all [fixed_onPort, fixed_onClock, fixed_onScanner, fixed_onAudio])

@[simp] theorem fixed_resumeEngine (s : State) : (resumeEngine s).fixed = s.fixed := by
  unfold resumeEngine
  try dsimp only
  (repeat' split) <;> (try simp [fixed_onPort, fixed_onClock, fixed_onScanner, fixed_onAudio]) <;>
    (repeat' split) <;> (try simp_all [fixed_onPort, fixed_onClock, fixed_onScanner, fixed_onAudio])

@[simp] theorem fixed_completeHead (s : State) : (completeHead s).fixed = s.fixed := by
  unfold completeHead
  try dsimp only
  (repeat' split) <;> (try simp [fixed_onPort, fixed_onClock, fixed_onScanner, fixed_onAudio]) <;>
    (repeat' split) <;> (try simp_all [fixed_onPort, fixed_onClock, fixed_onScanner, fixed_onAudio])

@[simp] theorem fixed_stringDone (s : State) : (stringDone s).fixed = s.fixed := by
  unfold stringDone
  try dsimp only
  (repeat' split) <;> (try simp [fixed_onPort, fixed_onClock, fixed_onScanner, fixed_onAudio]) <;>
    (repeat' split) <;> (try simp_all [fixed_onPort, fixed_onClock, fixed_onScanner, fixed_onAudio])

@[simp] theorem fixed_stringWord (ref : Nat) (w : Word) (s : State) : (stringWord ref w s).fixed = s.fixed := by
  unfold stringWord
  try dsimp only
  (repeat' split) <;> (try simp [fixed_onPort, fixed_onClock, fixed_onScanner, fixed_onAudio]) <;>
    (repeat' split) <;> (try simp_all [fixed_onPort, fixed_onClock, fixed_onScanner, fixed_onAudio])

@[simp] theorem fixed_headerWordRead (u : UnitRef) (w : Word) (s : State) : (headerWordRead u w s).fixed = s.fixed := by
  unfold headerWordRead
  try dsimp only
  (repeat' split) <;> (try simp [fixed_onPort, fixed_onClock, fixed_onScanner, fixed_onAudio]) <;>
    (repeat' split) <;> (try simp_all [fixed_onPort, fixed_onClock, fixed_onScanner, fixed_onAudio])

@[simp] theorem fixed_sampleWord (w : Word) (s : State) : (sampleWord w s).fixed = s.fixed := by
  unfold sampleWord
  try dsimp only
  (repeat' split) <;> (try simp [fixed_onPort, fixed_onClock, fixed_onScanner, fixed_onAudio]) <;>
    (repeat' split) <;> (try simp_all [fixed_onPort, fixed_onClock, fixed_onScanner, fixed_onAudio])

@[simp] theorem fixed_afterSample (s : State) : (afterSample s).fixed = s.fixed := by
  unfold afterSample
  try dsimp only
  (repeat' split) <;> (try simp [fixed_onPort, fixed_onClock, fixed_onScanner, fixed_onAudio]) <;>
    (repeat' split) <;> (try simp_all [fixed_onPort, fixed_onClock, fixed_onScanner, fixed_onAudio])

@[simp] theorem fixed_writePhrase (s : State) : (writePhrase s).fixed = s.fixed := by
  unfold writePhrase
  try dsimp only
  (repeat' split) <;> (try simp [fixed_onPort, fixed_onClock, fixed_onScanner, fixed_onAudio]) <;>
    (repeat' split) <;> (try simp_all [fixed_onPort, fixed_onClock, fixed_onScanner, fixed_onAudio])

@[simp] theorem fixed_writePause (s : State) : (writePause s).fixed = s.fixed := by
  unfold writePause
  try dsimp only
  (repeat' split) <;> (try simp [fixed_onPort, fixed_onClock, fixed_onScanner, fixed_onAudio]) <;>
    (repeat' split) <;> (try simp_all [fixed_onPort, fixed_onClock, fixed_onScanner, fixed_onAudio])

@[simp] theorem fixed_writeBuffer (s : State) : (writeBuffer s).fixed = s.fixed := by
  unfold writeBuffer
  try dsimp only
  (repeat' split) <;> (try simp [fixed_onPort, fixed_onClock, fixed_onScanner, fixed_onAudio]) <;>
    (repeat' split) <;> (try simp_all [fixed_onPort, fixed_onClock, fixed_onScanner, fixed_onAudio])

@[simp] theorem fixed_requestHandoff (s : State) : (requestHandoff s).fixed = s.fixed := by
  unfold requestHandoff
  try dsimp only
  (repeat' split) <;> (try simp [fixed_onPort, fixed_onClock, fixed_onScanner, fixed_onAudio]) <;>
    (repeat' split) <;> (try simp_all [fixed_onPort, fixed_onClock, fixed_onScanner, fixed_onAudio])

@[simp] theorem fixed_markReached (s : State) : (markReached s).fixed = s.fixed := by
  unfold markReached
  try dsimp only
  (repeat' split) <;> (try simp [fixed_onPort, fixed_onClock, fixed_onScanner, fixed_onAudio]) <;>
    (repeat' split) <;> (try simp_all [fixed_onPort, fixed_onClock, fixed_onScanner, fixed_onAudio])

@[simp] theorem fixed_handoffDone (s : State) : (handoffDone s).fixed = s.fixed := by
  unfold handoffDone
  try dsimp only
  (repeat' split) <;> (try simp [fixed_onPort, fixed_onClock, fixed_onScanner, fixed_onAudio]) <;>
    (repeat' split) <;> (try simp_all [fixed_onPort, fixed_onClock, fixed_onScanner, fixed_onAudio])

@[simp] theorem fixed_handoffLapse (s : State) : (handoffLapse s).fixed = s.fixed := by
  unfold handoffLapse
  try dsimp only
  (repeat' split) <;> (try simp [fixed_onPort, fixed_onClock, fixed_onScanner, fixed_onAudio]) <;>
    (repeat' split) <;> (try simp_all [fixed_onPort, fixed_onClock, fixed_onScanner, fixed_onAudio])

@[simp] theorem fixed_nudgeComposer (s : State) : (nudgeComposer s).fixed = s.fixed := by
  unfold nudgeComposer
  try dsimp only
  (repeat' split) <;> (try simp [fixed_onPort, fixed_onClock, fixed_onScanner, fixed_onAudio]) <;>
    (repeat' split) <;> (try simp_all [fixed_onPort, fixed_onClock, fixed_onScanner, fixed_onAudio])

@[simp] theorem fixed_doneWord (w : Word) (s : State) : (doneWord w s).fixed = s.fixed := by
  unfold doneWord
  try dsimp only
  (repeat' split) <;> (try simp [fixed_onPort, fixed_onClock, fixed_onScanner, fixed_onAudio]) <;>
    (repeat' split) <;> (try simp_all [fixed_onPort, fixed_onClock, fixed_onScanner, fixed_onAudio])

@[simp] theorem fixed_recWritten (r : RecWrite) (s : State) : (recWritten r s).fixed = s.fixed := by
  unfold recWritten
  try dsimp only
  (repeat' split) <;> (try simp [fixed_onPort, fixed_onClock, fixed_onScanner, fixed_onAudio]) <;>
    (repeat' split) <;> (try simp_all [fixed_onPort, fixed_onClock, fixed_onScanner, fixed_onAudio])

@[simp] theorem fixed_dropRestart (s : State) : (dropRestart s).fixed = s.fixed := by
  unfold dropRestart
  try dsimp only
  (repeat' split) <;> (try simp [fixed_onPort, fixed_onClock, fixed_onScanner, fixed_onAudio]) <;>
    (repeat' split) <;> (try simp_all [fixed_onPort, fixed_onClock, fixed_onScanner, fixed_onAudio])

@[simp] theorem fixed_hushAsserted (s : State) : (hushAsserted s).fixed = s.fixed := by
  unfold hushAsserted
  try dsimp only
  (repeat' split) <;> (try simp [fixed_onPort, fixed_onClock, fixed_onScanner, fixed_onAudio]) <;>
    (repeat' split) <;> (try simp_all [fixed_onPort, fixed_onClock, fixed_onScanner, fixed_onAudio])

@[simp] theorem fixed_hushReleased (s : State) : (hushReleased s).fixed = s.fixed := by
  unfold hushReleased
  try dsimp only
  (repeat' split) <;> (try simp [fixed_onPort, fixed_onClock, fixed_onScanner, fixed_onAudio]) <;>
    (repeat' split) <;> (try simp_all [fixed_onPort, fixed_onClock, fixed_onScanner, fixed_onAudio])

@[simp] theorem fixed_restartExpired (s : State) : (restartExpired s).fixed = s.fixed := by
  unfold restartExpired
  try dsimp only
  (repeat' split) <;> (try simp [fixed_onPort, fixed_onClock, fixed_onScanner, fixed_onAudio]) <;>
    (repeat' split) <;> (try simp_all [fixed_onPort, fixed_onClock, fixed_onScanner, fixed_onAudio])

@[simp] theorem fixed_park (s : State) : (park s).fixed = s.fixed := by
  unfold park
  try dsimp only
  (repeat' split) <;> (try simp [fixed_onPort, fixed_onClock, fixed_onScanner, fixed_onAudio]) <;>
    (repeat' split) <;> (try simp_all [fixed_onPort, fixed_onClock, fixed_onScanner, fixed_onAudio])

@[simp] theorem fixed_linkRead (v : Word) (s : State) : (linkRead v s).fixed = s.fixed := by
  unfold linkRead
  try dsimp only
  (repeat' split) <;> (try simp [fixed_onPort, fixed_onClock, fixed_onScanner, fixed_onAudio]) <;>
    (repeat' split) <;> (try simp_all [fixed_onPort, fixed_onClock, fixed_onScanner, fixed_onAudio])

@[simp] theorem fixed_stateRead (v : Word) (s : State) : (stateRead v s).fixed = s.fixed := by
  unfold stateRead
  try dsimp only
  (repeat' split) <;> (try simp [fixed_onPort, fixed_onClock, fixed_onScanner, fixed_onAudio]) <;>
    (repeat' split) <;> (try simp_all [fixed_onPort, fixed_onClock, fixed_onScanner, fixed_onAudio])

@[simp] theorem fixed_mergeStaged (s : State) : (mergeStaged s).fixed = s.fixed := by
  unfold mergeStaged
  try dsimp only
  (repeat' split) <;> (try simp [fixed_onPort, fixed_onClock, fixed_onScanner, fixed_onAudio]) <;>
    (repeat' split) <;> (try simp_all [fixed_onPort, fixed_onClock, fixed_onScanner, fixed_onAudio])

@[simp] theorem fixed_checkCopied (s : State) : (checkCopied s).fixed = s.fixed := by
  unfold checkCopied
  try dsimp only
  (repeat' split) <;> (try simp [fixed_onPort, fixed_onClock, fixed_onScanner, fixed_onAudio]) <;>
    (repeat' split) <;> (try simp_all [fixed_onPort, fixed_onClock, fixed_onScanner, fixed_onAudio])

@[simp] theorem fixed_copyMore (s : State) : (copyMore s).fixed = s.fixed := by
  unfold copyMore
  try dsimp only
  (repeat' split) <;> (try simp [fixed_onPort, fixed_onClock, fixed_onScanner, fixed_onAudio]) <;>
    (repeat' split) <;> (try simp_all [fixed_onPort, fixed_onClock, fixed_onScanner, fixed_onAudio])

@[simp] theorem fixed_takenDone (s : State) : (takenDone s).fixed = s.fixed := by
  unfold takenDone
  try dsimp only
  (repeat' split) <;> (try simp [fixed_onPort, fixed_onClock, fixed_onScanner, fixed_onAudio]) <;>
    (repeat' split) <;> (try simp_all [fixed_onPort, fixed_onClock, fixed_onScanner, fixed_onAudio])

@[simp] theorem fixed_bodyRead (v : Word) (s : State) : (bodyRead v s).fixed = s.fixed := by
  unfold bodyRead
  try dsimp only
  (repeat' split) <;> (try simp [fixed_onPort, fixed_onClock, fixed_onScanner, fixed_onAudio]) <;>
    (repeat' split) <;> (try simp_all [fixed_onPort, fixed_onClock, fixed_onScanner, fixed_onAudio])

@[simp] theorem fixed_retireDone (s : State) : (retireDone s).fixed = s.fixed := by
  unfold retireDone
  try dsimp only
  (repeat' split) <;> (try simp [fixed_onPort, fixed_onClock, fixed_onScanner, fixed_onAudio]) <;>
    (repeat' split) <;> (try simp_all [fixed_onPort, fixed_onClock, fixed_onScanner, fixed_onAudio])

@[simp] theorem fixed_nudgeWalker (s : State) : (nudgeWalker s).fixed = s.fixed := by
  unfold nudgeWalker
  try dsimp only
  (repeat' split) <;> (try simp [fixed_onPort, fixed_onClock, fixed_onScanner, fixed_onAudio]) <;>
    (repeat' split) <;> (try simp_all [fixed_onPort, fixed_onClock, fixed_onScanner, fixed_onAudio])

@[simp] theorem fixed_walkerStart (s : State) : (walkerStart s).fixed = s.fixed := by
  unfold walkerStart
  try dsimp only
  (repeat' split) <;> (try simp [fixed_onPort, fixed_onClock, fixed_onScanner, fixed_onAudio]) <;>
    (repeat' split) <;> (try simp_all [fixed_onPort, fixed_onClock, fixed_onScanner, fixed_onAudio])

@[simp] theorem fixed_takeIssued (a : Access) (s : State) : (takeIssued a s).fixed = s.fixed := by
  unfold takeIssued
  try dsimp only
  (repeat' split) <;> (try simp [fixed_onPort, fixed_onClock, fixed_onScanner, fixed_onAudio]) <;>
    (repeat' split) <;> (try simp_all [fixed_onPort, fixed_onClock, fixed_onScanner, fixed_onAudio])

@[simp] theorem fixed_issueFor (r : Requester) (s : State) : (issueFor r s).fixed = s.fixed := by
  unfold issueFor
  split
  · split
    · rw [fixed_takeIssued]; exact fixed_onPort _ _ rfl rfl
    · rfl
  · rfl

@[simp] theorem fixed_issueAll (s : State) : (issueAll s).fixed = s.fixed := by
  unfold issueAll
  try dsimp only
  (repeat' split) <;> (try simp [fixed_onPort, fixed_onClock, fixed_onScanner, fixed_onAudio]) <;>
    (repeat' split) <;> (try simp_all [fixed_onPort, fixed_onClock, fixed_onScanner, fixed_onAudio])

@[simp] theorem fixed_settle (s : State) : (settle s).fixed = s.fixed := by
  unfold settle
  try dsimp only
  (repeat' split) <;> (try simp [fixed_onPort, fixed_onClock, fixed_onScanner, fixed_onAudio]) <;>
    (repeat' split) <;> (try simp_all [fixed_onPort, fixed_onClock, fixed_onScanner, fixed_onAudio])

@[simp] theorem fixed_grantEffect (a : Access) (s : State) : (grantEffect a s).fixed = s.fixed := by
  unfold grantEffect
  try dsimp only
  (repeat' split) <;> (try simp [fixed_onPort, fixed_onClock, fixed_onScanner, fixed_onAudio]) <;>
    (repeat' split) <;> (try simp_all [fixed_onPort, fixed_onClock, fixed_onScanner, fixed_onAudio])

@[simp] theorem fixed_grantTo (r : Requester) (q : Request) (s : State) : (grantTo r q s).fixed = s.fixed := by
  unfold grantTo
  try dsimp only
  (repeat' split) <;> (try simp [fixed_onPort, fixed_onClock, fixed_onScanner, fixed_onAudio]) <;>
    (repeat' split) <;> (try simp_all [fixed_onPort, fixed_onClock, fixed_onScanner, fixed_onAudio])

@[simp] theorem fixed_grant (s : State) : (grant s).fixed = s.fixed := by
  unfold grant
  try dsimp only
  (repeat' split) <;> (try simp [fixed_onPort, fixed_onClock, fixed_onScanner, fixed_onAudio]) <;>
    (repeat' split) <;> (try simp_all [fixed_onPort, fixed_onClock, fixed_onScanner, fixed_onAudio])

@[simp] theorem fixed_popChain (s : State) : (popChain s).fixed = s.fixed := by
  unfold popChain
  try dsimp only
  (repeat' split) <;> (try simp [fixed_onPort, fixed_onClock, fixed_onScanner, fixed_onAudio]) <;>
    (repeat' split) <;> (try simp_all [fixed_onPort, fixed_onClock, fixed_onScanner, fixed_onAudio])

@[simp] theorem fixed_lcWritten (chain : Bool) (s : State) : (lcWritten chain s).fixed = s.fixed := by
  unfold lcWritten
  try dsimp only
  (repeat' split) <;> (try simp [fixed_onPort, fixed_onClock, fixed_onScanner, fixed_onAudio]) <;>
    (repeat' split) <;> (try simp_all [fixed_onPort, fixed_onClock, fixed_onScanner, fixed_onAudio])

@[simp] theorem fixed_handOver (s : State) : (handOver s).fixed = s.fixed := by
  unfold handOver
  try dsimp only
  (repeat' split) <;> (try simp [fixed_onPort, fixed_onClock, fixed_onScanner, fixed_onAudio]) <;>
    (repeat' split) <;> (try simp_all [fixed_onPort, fixed_onClock, fixed_onScanner, fixed_onAudio])

@[simp] theorem fixed_startingWrites (s : State) : (startingWrites s).fixed = s.fixed := by
  unfold startingWrites
  try dsimp only
  (repeat' split) <;> (try simp [fixed_onPort, fixed_onClock, fixed_onScanner, fixed_onAudio]) <;>
    (repeat' split) <;> (try simp_all [fixed_onPort, fixed_onClock, fixed_onScanner, fixed_onAudio])

@[simp] theorem fixed_setupChecked (s : State) : (setupChecked s).fixed = s.fixed := by
  unfold setupChecked
  try dsimp only
  (repeat' split) <;> (try simp [fixed_onPort, fixed_onClock, fixed_onScanner, fixed_onAudio]) <;>
    (repeat' split) <;> (try simp_all [fixed_onPort, fixed_onClock, fixed_onScanner, fixed_onAudio])

@[simp] theorem fixed_accessFailed (a : Access) (s : State) : (accessFailed a s).fixed = s.fixed := by
  unfold accessFailed
  try dsimp only
  (repeat' split) <;> (try simp [fixed_onPort, fixed_onClock, fixed_onScanner, fixed_onAudio]) <;>
    (repeat' split) <;> (try simp_all [fixed_onPort, fixed_onClock, fixed_onScanner, fixed_onAudio])

@[simp] theorem fixed_busFailed (b : BusAccess) (s : State) : (busFailed b s).fixed = s.fixed := by
  unfold busFailed
  try dsimp only
  (repeat' split) <;> (try simp [fixed_onPort, fixed_onClock, fixed_onScanner, fixed_onAudio]) <;>
    (repeat' split) <;> (try simp_all [fixed_onPort, fixed_onClock, fixed_onScanner, fixed_onAudio])

@[simp] theorem fixed_pauseAccepted (s : State) : (pauseAccepted s).fixed = s.fixed := by
  unfold pauseAccepted
  try dsimp only
  (repeat' split) <;> (try simp [fixed_onPort, fixed_onClock, fixed_onScanner, fixed_onAudio]) <;>
    (repeat' split) <;> (try simp_all [fixed_onPort, fixed_onClock, fixed_onScanner, fixed_onAudio])

@[simp] theorem fixed_resumeAccepted (s : State) : (resumeAccepted s).fixed = s.fixed := by
  unfold resumeAccepted
  try dsimp only
  (repeat' split) <;> (try simp [fixed_onPort, fixed_onClock, fixed_onScanner, fixed_onAudio]) <;>
    (repeat' split) <;> (try simp_all [fixed_onPort, fixed_onClock, fixed_onScanner, fixed_onAudio])

@[simp] theorem fixed_abortStart (s : State) : (abortStart s).fixed = s.fixed := by
  unfold abortStart
  try dsimp only
  (repeat' split) <;> (try simp [fixed_onPort, fixed_onClock, fixed_onScanner, fixed_onAudio]) <;>
    (repeat' split) <;> (try simp_all [fixed_onPort, fixed_onClock, fixed_onScanner, fixed_onAudio])

@[simp] theorem fixed_abortOver (s : State) : (abortOver s).fixed = s.fixed := by
  unfold abortOver
  try dsimp only
  (repeat' split) <;> (try simp [fixed_onPort, fixed_onClock, fixed_onScanner, fixed_onAudio]) <;>
    (repeat' split) <;> (try simp_all [fixed_onPort, fixed_onClock, fixed_onScanner, fixed_onAudio])

@[simp] theorem fixed_retireWritten (a : Access) (s : State) : (retireWritten a s).fixed = s.fixed := by
  unfold retireWritten
  try dsimp only
  (repeat' split) <;> (try simp [fixed_onPort, fixed_onClock, fixed_onScanner, fixed_onAudio]) <;>
    (repeat' split) <;> (try simp_all [fixed_onPort, fixed_onClock, fixed_onScanner, fixed_onAudio])

@[simp] theorem fixed_scannerWritten (a : Access) (s : State) : (scannerWritten a s).fixed = s.fixed := by
  unfold scannerWritten
  try dsimp only
  (repeat' split) <;> (try simp [fixed_onPort, fixed_onClock, fixed_onScanner, fixed_onAudio]) <;>
    (repeat' split) <;> (try simp_all [fixed_onPort, fixed_onClock, fixed_onScanner, fixed_onAudio])

@[simp] theorem fixed_recordWritten (a : Access) (s : State) : (recordWritten a s).fixed = s.fixed := by
  unfold recordWritten
  try dsimp only
  (repeat' split) <;> (try simp [fixed_onPort, fixed_onClock, fixed_onScanner, fixed_onAudio]) <;>
    (repeat' split) <;> (try simp_all [fixed_onPort, fixed_onClock, fixed_onScanner, fixed_onAudio])

@[simp] theorem fixed_composerWritten (a : Access) (s : State) : (composerWritten a s).fixed = s.fixed := by
  unfold composerWritten
  try dsimp only
  (repeat' split) <;> (try simp [fixed_onPort, fixed_onClock, fixed_onScanner, fixed_onAudio]) <;>
    (repeat' split) <;> (try simp_all [fixed_onPort, fixed_onClock, fixed_onScanner, fixed_onAudio])

end Sys2Proof.Machine
end

