-- ==== Sys2Proof/Laws/Job.lean ====
section
/-! SUPPORT. The Alignment Unit's job: what a sound unit holds, that its work keeps it sound, and that its result is the
judging of its copies. -/
namespace Sys2Proof.Machine

/-- The alternates are those with a table and those still to be filled. -/
theorem AlignUnit.unfilled_eq (u : AlignUnit) :
    u.alternates = u.alternates.take u.tables.length ++ u.unfilled :=
  (List.take_append_drop ..).symm

@[simp] theorem AlignUnit.idle_inRange : AlignUnit.inRange {} := by simp [AlignUnit.inRange]

theorem AlignUnit.request_inRange (a : List Nat) (alts : List (List Nat)) : (AlignUnit.request a alts).inRange := by
  simp [AlignUnit.inRange, AlignUnit.request]

/-- Filling what is left of the tables gives every table and every distance. -/
theorem AlignUnit.fill_foldl (ts : List (List Nat)) (u : AlignUnit) :
    ts.foldl AlignUnit.fill u = { u with
      tables := u.tables ++ ts.map (distanceTable u.trail), distances := u.distances ++ ts.map (distance u.trail) } := by
  induction ts generalizing u with
  | nil => simp
  | cons t ts ih => simp [ih, AlignUnit.fill, distance]

/-- A sound unit's result is the judging of its copies (R121). -/
theorem AlignUnit.result_eq {u : AlignUnit} (h : u.inRange) : u.result = judge u.trail u.alternates := by
  obtain ⟨hlen, ht, hd, _, htr, _⟩ := h
  unfold AlignUnit.result
  cases hu : u.traced with
  | some r => exact (htr r hu).2
  | none =>
    have he : ∀ {β : Type} (f : List Nat → β), u.alternates.map f =
        (u.alternates.take u.tables.length).map f ++ u.unfilled.map f := fun f => by
      rw [← List.map_append]; exact congrArg _ (AlignUnit.unfilled_eq u)
    simp only [Option.getD_none, AlignUnit.fill_foldl, judge]
    rw [he, he, ← ht, ← hd]

/-- A sound unit goes on soundly (R121). -/
theorem AlignUnit.advance_inRange {u : AlignUnit} (h : u.inRange) : u.advance.inRange := by
  obtain ⟨hlen, ht, hd, hf, htr, hi⟩ := h
  unfold AlignUnit.advance
  split
  · exact ⟨hlen, ht, hd, hf, htr, hi⟩
  · rename_i hs
    have hn : u.traced = none := by
      cases hu : u.traced with
      | none => rfl
      | some r => exact absurd (htr r hu).1 (by simp [hs])
    split
    · rename_i t rest hun
      have hlt : u.tables.length < u.alternates.length := by
        refine Nat.lt_of_not_le fun hge => ?_
        rw [AlignUnit.unfilled, List.drop_eq_nil_of_le hge] at hun
        exact absurd hun (by simp)
      have hget : u.alternates[u.tables.length] = t := by
        rw [AlignUnit.unfilled, List.drop_eq_getElem_cons hlt] at hun
        exact (List.cons.inj hun).1
      have htake : u.alternates.take (u.tables.length + 1) = u.alternates.take u.tables.length ++ [t] := by
        rw [List.take_succ_eq_append_getElem hlt, hget]
      refine ⟨?_, ?_, ?_, ?_, ?_, ?_⟩
      · simp only [AlignUnit.fill, List.length_append, List.length_singleton]; omega
      · simp only [AlignUnit.fill, List.length_append, List.length_singleton, htake, List.map_append, ← ht]
        simp
      · simp only [AlignUnit.fill, List.length_append, List.length_singleton, htake, List.map_append, ← hd]
        simp [distance]
      · simp [AlignUnit.fill, hs]
      · simp [AlignUnit.fill, hn]
      · simp [AlignUnit.fill, hs]
    · rename_i hun
      refine ⟨hlen, ht, hd, ?_, by simp [hn], by simp⟩
      intro _
      have := congrArg List.length hun
      simp [AlignUnit.unfilled] at this
      dsimp only
      omega
  · rename_i hs
    split
    · exact ⟨hlen, ht, hd, hf, htr, hi⟩
    · rename_i hn
      refine ⟨hlen, ht, hd, fun _ => hf hs, ?_, by simp [AlignUnit.trace]⟩
      intro r hr
      refine ⟨rfl, ?_⟩
      have hu : u.traced = none := by simpa using hn
      have := AlignUnit.result_eq ⟨hlen, ht, hd, hf, htr, hi⟩
      have hall : u.unfilled = [] := List.drop_eq_nil_of_le (by have := hf hs; omega)
      simp only [AlignUnit.result, hu, hall, List.foldl_nil, Option.getD_none] at this
      simp only [AlignUnit.trace, Option.some.injEq] at hr
      rw [← hr, this]
      rfl

end Sys2Proof.Machine
end

