-- ==== Sys2Proof/Laws/Ranges.lean ====
section
/-! SUPPORT. The ranges of Safety.lean: what each operation of a block keeps, and what each operation of the part keeps. -/
set_option linter.unusedSimpArgs false

namespace Sys2Proof.Machine

/-! ### The key scanner -/

theorem Scanner.count_inRange {k : Scanner} (h : k.inRange) (c : KsCounter) (n : Nat) : (k.count c n).inRange := by
  unfold Scanner.count
  cases c <;> (dsimp only; split <;> exact h)

theorem Scanner.arrive_inRange {k : Scanner} (h : k.inRange) (e : KeyEvent) : (k.arrive e).inRange := by
  unfold Scanner.arrive
  split
  · rename_i hl
    refine ⟨?_, h.2⟩
    simp only [List.length_append, List.length_singleton]
    omega
  · exact count_inRange h ..

theorem Scanner.takeHead_inRange {k : Scanner} (h : k.inRange) : k.takeHead.inRange :=
  ⟨by have := h.1; simp only [Scanner.takeHead, List.length_tail]; omega, h.2⟩

theorem Scanner.dropHead_inRange {k : Scanner} (h : k.inRange) : k.dropHead.inRange := by
  unfold Scanner.dropHead
  split
  · exact h
  · rename_i e rest he
    refine count_inRange (k := { k with fifo := rest }) ⟨?_, h.2⟩ ..
    have := h.1
    simp only [he, List.length_cons] at this
    dsimp only
    omega

theorem Scanner.flushLetters_inRange {k : Scanner} (h : k.inRange) : k.flushLetters.inRange :=
  count_inRange (k := { k with fifo := k.fifo.filter (!·.isLetter) }) ⟨Nat.le_trans (List.length_filter_le _ _) h.1, h.2⟩ ..

theorem Scanner.flushAll_inRange {k : Scanner} (h : k.inRange) : k.flushAll.inRange :=
  count_inRange (k := { k with fifo := [] }) ⟨Nat.zero_le _, h.2⟩ ..

theorem Scanner.passKey_inRange {k : Scanner} (h : k.inRange) (e : KeyEvent) : (k.passKey e).inRange := by
  unfold Scanner.passKey
  split
  · exact count_inRange h ..
  · exact h

theorem Scanner.passLost_inRange {k : Scanner} (h : k.inRange) : k.passLost.inRange := by
  unfold Scanner.passLost
  split
  · exact h
  · exact count_inRange (k := { k with passOp := none, believesFull := true }) h ..

theorem Scanner.setKey_inRange {k : Scanner} (h : k.inRange) (p : Nat) {d : Debounce} (hd : d.inRange) :
    { k with keys := k.keys.set p d }.inRange :=
  ⟨h.1, h.2.1, h.2.2.1, by simpa using h.2.2.2.1, h.2.2.2.2.1, fun x hx => by
    rcases List.mem_or_eq_of_mem_set hx with hx | rfl
    · exact h.2.2.2.2.2 x hx
    · exact hd⟩

/-- The debounce state of a position is in its range, and so is that of a position beyond the last. -/
theorem Scanner.getKey_inRange {k : Scanner} (h : k.inRange) (p : Nat) : (k.keys.getD p .up).inRange := by
  rw [List.getD_eq_getElem?_getD]
  cases hg : k.keys[p]? with
  | none => trivial
  | some d => exact h.2.2.2.2.2 d (List.mem_of_getElem? hg)

theorem Debounce.settleRun_inRange (d : Debounce) : d.settleRun.inRange := by cases d <;> trivial

theorem Scanner.atRun_inRange {k : Scanner} (h : k.inRange) : k.atRun.inRange :=
  ⟨Nat.zero_le _, h.2.1, h.2.2.1, by simpa [Scanner.atRun] using h.2.2.2.1, h.2.2.2.2.1, fun d hd => by
    obtain ⟨x, -, rfl⟩ := List.mem_map.1 hd
    exact Debounce.settleRun_inRange x⟩

theorem setupKeyMap_length (setup : List Word) : (setupKeyMap setup).length = 64 := by simp [setupKeyMap]

theorem Scanner.startAborted_inRange {k : Scanner} (h : k.inRange) (a : Option Access) : (k.startAborted a).inRange := h

/-! ### The speech composer -/

theorem Speech.count_inRange {c : Speech} (h : c.inRange) (k : ScCounter) (n : Nat) : (c.count k n).inRange := by
  unfold Speech.count
  cases k <;> (dsimp only; split <;> exact h)

theorem Speech.resolved_inRange {c : Speech} (h : c.inRange) (us : List UnitHeader) : (c.resolved us).inRange := by
  unfold Speech.resolved
  dsimp only
  split <;> exact count_inRange h ..

/-- A queue no longer than before keeps the range. -/
theorem Speech.queue_inRange {c d : Speech} (h : c.inRange) (hq : d.queue.length ≤ c.queue.length) (hs : d.seq = c.seq)
    (hh : d.handoffSeq = c.handoffSeq) (hr : d.record.seq = c.record.seq) (ht : d.settings = c.settings) : d.inRange :=
  ⟨Nat.le_trans hq h.1, hs ▸ h.2.1, hh ▸ h.2.2.1, hr ▸ h.2.2.2.1, ht ▸ h.2.2.2.2⟩

/-- The settings taken from a context in its ranges lie in theirs (R167). -/
theorem Context.settings_inRange {c : Context} (h : c.inRange) : (SpeechSettings.of c).inRange := by
  obtain ⟨-, -, -, -, -, -, -, -, -, h10, h11, h12, h13, h14, h15, h16, -, -, h19⟩ := h
  exact ⟨h10, h11, h12, h13, h14, h15, h16, h19⟩

/-! ### The lesson clock -/

theorem Clock.get_put (c : Clock) (n m : TimerName) (t : Timer) : (c.put n t).get m = if m = n then t else c.get m := by
  cases n <;> cases m <;> rfl

theorem Clock.put_inRange {c : Clock} (h : c.inRange) {n : TimerName} {t : Timer} (ht : t.left ≤ n.longest) :
    (c.put n t).inRange := by
  intro m
  rw [Clock.get_put]
  split
  · rename_i hm; exact hm ▸ ht
  · exact h m

theorem Timer.retime_left (t : Timer) (b : Bool) : (t.retime b).left = t.left := by
  unfold Timer.retime; split <;> rfl

theorem Timer.tick_left_le (t : Timer) : t.tick.left ≤ t.left := by
  unfold Timer.tick
  split
  · split
    · exact Nat.zero_le _
    · exact Nat.sub_le ..
  · exact Nat.le_refl _

/-- Durations of REPROMPT and SETTLE in the active context are at most the longest (R36, R82). -/
theorem Context.reprompt_le {c : Context} (h : c.inRange) : c.reprompt ≤ TimerName.reprompt.longest := h.2.2.2.2.2.2.1.2.1
theorem Context.settle_le {c : Context} (h : c.inRange) : c.settle ≤ TimerName.settle.longest := h.2.2.2.2.2.2.2.2.1.2
theorem SpeechSettings.handoffWait_le {c : SpeechSettings} (h : c.inRange) : c.handoffWait ≤ TimerName.handoffWait.longest :=
  h.2.2.2.2.2.2.2.2

theorem Speech.holdQueue_inRange {c : Speech} (h : c.inRange) (q : List Utterance) (hq : q.length ≤ c.queue.length)
    (r : Replay) : (c.holdQueue q r).inRange := by
  unfold Speech.holdQueue
  split <;> exact queue_inRange h hq rfl rfl rfl rfl

theorem nextHandoff_le (n : Nat) : nextHandoff n ≤ 255 := by unfold nextHandoff; split <;> omega

/-! ### The audio output -/

theorem rampDown_length (n : Nat) (b : List Int) : (rampDown n b).length = min n b.length := by
  simp [rampDown]

theorem Audio.cut_inRange {a : Audio} (h : a.inRange) (n : Nat) (m : Option Nat) (r : Bool) :
    { a with buffer := rampDown n a.buffer, mark := m, markReport := r }.inRange :=
  ⟨by rw [rampDown_length]; exact Nat.le_trans (Nat.min_le_right _ _) h.1, h.2⟩

theorem Audio.hushCut_inRange {a : Audio} (h : a.inRange) :
    { a with buffer := rampDown Config.hushRampSamples a.buffer, mark := none, markReport := false
             hushRamp := (rampDown Config.hushRampSamples a.buffer).length }.inRange :=
  ⟨by rw [rampDown_length]; exact Nat.le_trans (Nat.min_le_right _ _) h.1, h.2.1, h.2.2.1, h.2.2.2.1,
    by rw [rampDown_length]; exact Nat.min_le_left _ _⟩

/-! ### Contexts -/

theorem Context.defaults_inRange : Context.defaults.inRange := by
  unfold Context.inRange Context.defaults; decide

theorem clamp_ge (lo hi n : Nat) : lo ≤ clamp lo hi n := Nat.le_max_left ..
theorem clamp_le {lo hi : Nat} (h : lo ≤ hi) (n : Nat) : clamp lo hi n ≤ hi :=
  Nat.max_le.2 ⟨h, Nat.min_le_left ..⟩

theorem mergeNum_le {lo hi old : Nat} (h : lo ≤ hi) (ho : old ≤ hi) (v : Nat) : (mergeNum lo hi old v).1 ≤ hi := by
  unfold mergeNum; split
  · exact ho
  · exact clamp_le h v

theorem mergeNum_ge {lo hi old : Nat} (ho : lo ≤ old) (v : Nat) : lo ≤ (mergeNum lo hi old v).1 := by
  unfold mergeNum; split
  · exact ho
  · exact clamp_ge ..

theorem mergeReprompt_inRange {old : Nat} (h : 1000 ≤ old ∧ old ≤ 30000 ∧ old % 500 = 0) (v : Nat) :
    1000 ≤ (mergeReprompt old v).1 ∧ (mergeReprompt old v).1 ≤ 30000 ∧ (mergeReprompt old v).1 % 500 = 0 := by
  unfold mergeReprompt; split
  · exact h
  · simp only [clamp]; omega

theorem mergeBank_le {old : Nat} (h : old ≤ 3) (dir : List BankEntry) (v : Nat) : (mergeBank dir old v).1 ≤ 3 := by
  unfold mergeBank
  split
  · exact h
  · dsimp only
    split
    · exact clamp_le (by decide) v
    · exact h

/-- A merge keeps every setting in its range (R37). -/
theorem mergeContext_inRange {old : Context} (h : old.inRange) (dir : List BankEntry) (body : List Byte) :
    (mergeContext dir old body).1.inRange := by
  obtain ⟨h1, h2, h3, h4, h5, h6, h7, h8, h9, h10, h11, h12, h13, h14, h15, h16, h17, h18, h19⟩ := h
  exact ⟨⟨mergeNum_ge h1.1 _, mergeNum_le (by decide) h1.2 _⟩, mergeNum_le (by decide) h2 _,
    ⟨mergeNum_ge h3.1 _, mergeNum_le (by decide) h3.2 _⟩, mergeNum_le (by decide) h4 _,
    ⟨mergeNum_ge h5.1 _, mergeNum_le (by decide) h5.2 _⟩, ⟨mergeNum_ge h6.1 _, mergeNum_le (by decide) h6.2 _⟩,
    mergeReprompt_inRange h7 _, mergeNum_le (by decide) h8 _,
    ⟨mergeNum_ge h9.1 _, mergeNum_le (by decide) h9.2 _⟩, ⟨mergeNum_ge h10.1 _, mergeNum_le (by decide) h10.2 _⟩,
    mergeNum_le (by decide) h11 _, mergeNum_le (by decide) h12 _, mergeNum_le (by decide) h13 _,
    mergeNum_le (by decide) h14 _, mergeNum_le (by decide) h15 _,
    ⟨mergeNum_ge h16.1 _, mergeNum_le (by decide) h16.2 _⟩, mergeNum_le (by decide) h17 _, mergeBank_le h18 _ _,
    ⟨mergeNum_ge h19.1 _, mergeNum_le (by decide) h19.2 _⟩⟩

/-! ### Card images -/

theorem alternateLetters_length (body : List Byte) (k : Nat) :
    (alternateLetters body k).length = bodyByte body (alternateOffset k) := by simp [alternateLetters]

/-- A WORD card that passes the check has an image in its ranges (R33). -/
theorem checkWord_ready {body : List Byte} {img : Image} (h : checkWord body = .ready img) : img.inRange := by
  unfold checkWord at h
  dsimp only at h
  split at h
  · cases h
  · split at h
    · cases h
    · rename_i ha
      split at h
      · cases h
      · split at h
        · cases h
        · cases h
          refine ⟨?_, ?_, ?_, ?_⟩
          · intro a hm
            simp only [wordImage, List.mem_map, List.mem_range] at hm
            obtain ⟨k, hk, rfl⟩ := hm
            rw [alternateLetters_length]
            simp only [Bool.not_eq_true, Bool.not_eq_false', List.all_eq_true, List.mem_range] at ha
            have := ha k hk
            simp only [alternateOk, Bool.and_eq_true, decide_eq_true_eq] at this
            exact this.1.2
          · simp only [wordImage]; omega
          · simp only [wordImage]; omega
          · simp only [wordImage, bodyByte, byteAt]
            have := (body.getD (0x32 - 0x10) 0).isLt
            omega

theorem checkCard_ready {kind : Byte} {body : List Byte} {img : Image} (h : checkCard kind body = .ready img) :
    img.inRange := by
  unfold checkCard at h
  split at h
  · exact checkWord_ready h
  · split at h
    · cases h
    · split at h
      · split at h
        · cases h; trivial
        · cases h
      · split at h
        · cases h; trivial
        · cases h

/-! ### The review queue -/

theorem insertInOrder_length (now : Word) (e : ReviewEntry) (q : List ReviewEntry) :
    (insertInOrder now e q).length = q.length + 1 := by
  induction q with
  | nil => rfl
  | cons x xs ih => unfold insertInOrder; split <;> simp [ih]

theorem mem_insertInOrder {now : Word} {e x : ReviewEntry} {q : List ReviewEntry} :
    x ∈ insertInOrder now e q ↔ x = e ∨ x ∈ q := by
  induction q with
  | nil => simp [insertInOrder]
  | cons y ys ih =>
    unfold insertInOrder
    split
    · simp
    · rw [List.mem_cons, ih, List.mem_cons, or_left_comm]

theorem orderQueue_length (now : Word) (q : List ReviewEntry) : (orderQueue now q).length = q.length := by
  unfold orderQueue
  induction q with
  | nil => rfl
  | cons x xs ih => simp [insertInOrder_length, ih]

theorem mem_orderQueue {now : Word} {x : ReviewEntry} {q : List ReviewEntry} : x ∈ orderQueue now q ↔ x ∈ q := by
  unfold orderQueue
  induction q with
  | nil => simp
  | cons y ys ih => simp [mem_insertInOrder, ih]

theorem insertNew_length (e : ReviewEntry) (q : List ReviewEntry) : (insertNew e q).length = q.length + 1 := by
  induction q with
  | nil => rfl
  | cons x xs ih => unfold insertNew; split <;> simp [ih]

theorem mem_insertNew {e x : ReviewEntry} {q : List ReviewEntry} : x ∈ insertNew e q ↔ x = e ∨ x ∈ q := by
  induction q with
  | nil => simp [insertNew]
  | cons y ys ih =>
    unfold insertNew
    split
    · simp
    · rw [List.mem_cons, ih, List.mem_cons, or_left_comm]

theorem decrementDues_length (now : Word) (q : List ReviewEntry) : (decrementDues now q).length = q.length := by
  simp [decrementDues, orderQueue_length]

theorem decrementDues_inRange {now : Word} {q : List ReviewEntry} (h : ∀ e ∈ q, e.inRange) :
    ∀ e ∈ decrementDues now q, e.inRange := by
  intro e he
  simp only [decrementDues, mem_orderQueue, List.mem_map] at he
  obtain ⟨x, hx, rfl⟩ := he
  exact ⟨by have := (h x hx).1; dsimp only; omega, (h x hx).2⟩

theorem newMastery_le {pass m : Nat} (h : m ≤ 15) (f : FinalTry) : newMastery pass m f ≤ 15 := by
  unfold newMastery
  split
  · split
    · split <;> exact Nat.min_le_left ..
    · exact h
  · omega
  · omega

theorem reviewFate_inserted {ctx : Context} {q r : Nat} {f : FinalTry} (h : reviewFate ctx q r f = .noOutcome) :
    r < ctx.reviewMax ∧ q < Config.reviewDepth := by
  unfold reviewFate at h
  split at h
  · cases h
  · split at h
    · cases h
    · split at h
      · cases h
      · omega

theorem decideWord_inRange {cur : Current} {img : WordImage} {l : Lc} (h : l.inRange) (hi : img.inRange) (f : FinalTry) :
    (decideWord cur img f l).inRange := by
  obtain ⟨hq, hqs, ha, hc⟩ := h
  obtain ⟨hal, hm, hr, hp⟩ := hi
  have hrm : l.active.reviewMax ≤ 7 := ha.2.2.2.2.2.1.2
  unfold decideWord
  dsimp only
  split
  · rename_i hins
    have hf := reviewFate_inserted hins
    refine ⟨?_, ?_, ha, by simp, by
      rintro e ⟨⟩
      exact ⟨hal, newMastery_le hm f, by simp only [hins, if_true]; omega, Nat.min_le_left ..⟩⟩
    · rw [insertNew_length, decrementDues_length]; omega
    · intro e he
      rcases mem_insertNew.1 he with rfl | he
      · refine ⟨Nat.min_le_left .., hal, newMastery_le hm f, ?_, Nat.min_le_left ..⟩
        simp only [hins, if_true]
        omega
      · exact decrementDues_inRange hqs e he
  · rename_i hins
    exact ⟨by rw [decrementDues_length]; exact hq, decrementDues_inRange hqs, ha, hc.1, by
      rintro e ⟨⟩
      exact ⟨hal, newMastery_le hm f, by simp only [hins, if_false]; omega, Nat.min_le_left ..⟩⟩

theorem decideSay_inRange {cur : Current} {l : Lc} (h : l.inRange) (hc : cur.image.inRange) : (decideSay cur l).inRange :=
  ⟨by simp only [decideSay, decrementDues_length]; exact h.1, decrementDues_inRange h.2.1, h.2.2.1, h.2.2.2.1, by
    rintro e ⟨⟩; exact hc⟩

/-! ### The attempt engine -/

theorem Engine.newTry_inRange {e : Engine} (h : e.inRange) (n : Nat) (now : Word) : (e.newTry n now).inRange :=
  ⟨h.1, by simp [Engine.newTry], by simp [Engine.newTry], by simp [Engine.newTry], by simp [Engine.newTry],
    by simp [Engine.newTry], by simp [Engine.newTry]⟩

theorem Engine.idle_inRange : Engine.inRange {} := by
  refine ⟨⟨by simp, ?_⟩, ?_⟩ <;> decide

theorem range_onPort {s : State} (h : s.InRange) (f : Port → Port) (hf : s.port.inRange → (f s.port).inRange) : (s.onPort f).InRange :=
  { h with port := hf h.port }
theorem range_onWalker {s : State} (h : s.InRange) (f : Walker → Walker) (hf : s.walker.inRange → (f s.walker).inRange) : (s.onWalker f).InRange :=
  { h with walker := hf h.walker }
theorem range_onLc {s : State} (h : s.InRange) (f : Lc → Lc) (hf : s.lc.inRange → (f s.lc).inRange) : (s.onLc f).InRange :=
  { h with lc := hf h.lc }
theorem range_onScanner {s : State} (h : s.InRange) (f : Scanner → Scanner) (hf : s.scanner.inRange → (f s.scanner).inRange) : (s.onScanner f).InRange :=
  { h with scanner := hf h.scanner }
theorem range_onEngine {s : State} (h : s.InRange) (f : Engine → Engine) (hf : s.engine.inRange → (f s.engine).inRange) : (s.onEngine f).InRange :=
  { h with engine := hf h.engine }
theorem range_onSpeech {s : State} (h : s.InRange) (f : Speech → Speech) (hf : s.speech.inRange → (f s.speech).inRange) : (s.onSpeech f).InRange :=
  { h with speech := hf h.speech }
theorem range_onAudio {s : State} (h : s.InRange) (f : Audio → Audio) (hf : s.audio.inRange → (f s.audio).inRange) : (s.onAudio f).InRange :=
  { h with audio := hf h.audio }
theorem range_onClock {s : State} (h : s.InRange) (f : Clock → Clock) (hf : s.clock.inRange → (f s.clock).inRange) : (s.onClock f).InRange :=
  { h with clock := hf h.clock }
theorem range_onUnit {s : State} (h : s.InRange) (f : AlignUnit → AlignUnit) (hf : s.unit.inRange → (f s.unit).inRange) :
    (s.onUnit f).InRange := { h with unit := hf h.unit }
theorem range_onLine {s : State} (h : s.InRange) (f : Line → Line) : (s.onLine f).InRange := { h with }

theorem range_setEvent (e : Event) (s : State) (h : s.InRange) : (setEvent e s).InRange :=
  range_onPort h _ (fun hr => hr)

theorem range_showResult (refused : Bool) (s : State) (h : s.InRange) : (showResult refused s).InRange := by
  unfold showResult
  try dsimp only
  (repeat' split) <;> repeat' first
    | with_reducible exact h
    | with_reducible apply range_onPort
    | (intro hr; exact hr)

theorem range_coalesceEnd (s : State) (h : s.InRange) : (coalesceEnd s).InRange := by
  unfold coalesceEnd
  split
  · exact range_setEvent _ _ (range_onPort h _ (fun hr => ⟨hr.1, hr.2.1, hr.2.1⟩))
  · exact range_onPort h _ (fun hr => ⟨hr.1, hr.2.1, by have := hr.2.2; dsimp only; omega⟩)

theorem range_coalesceEnded (s : State) (h : s.InRange) : (coalesceEnded s).InRange := by
  unfold coalesceEnded
  dsimp only
  split
  · exact range_onPort (range_setEvent _ _ h) _ (fun hr => ⟨hr.1, hr.2.1, hr.2.1⟩)
  · exact range_onPort h _ (fun hr => ⟨hr.1, hr.2.1, hr.2.1⟩)

theorem range_touchMirror (s : State) (h : s.InRange) : (touchMirror s).InRange := by
  unfold touchMirror
  try dsimp only
  (repeat' split) <;> repeat' first
    | with_reducible exact h
    | with_reducible apply range_onLc
    | (intro hr; exact hr)

theorem range_touchCopy (c : LcCounter) (s : State) (h : s.InRange) : (touchCopy c s).InRange := by
  unfold touchCopy
  try dsimp only
  (repeat' split) <;> repeat' first
    | with_reducible exact h
    | with_reducible apply range_onLc
    | (intro hr; exact hr)

theorem range_advanceTaken (s : State) (h : s.InRange) : (advanceTaken s).InRange := by
  unfold advanceTaken
  try dsimp only
  (repeat' split) <;> repeat' first
    | with_reducible exact h
    | with_reducible apply range_touchCopy
    | with_reducible apply range_onLc
    | (intro hr; exact hr)

theorem range_advanceRetired (s : State) (h : s.InRange) : (advanceRetired s).InRange := by
  unfold advanceRetired
  try dsimp only
  (repeat' split) <;> repeat' first
    | with_reducible exact h
    | with_reducible apply range_touchCopy
    | with_reducible apply range_onLc
    | (intro hr; exact hr)

theorem range_advanceJudged (s : State) (h : s.InRange) : (advanceJudged s).InRange := by
  unfold advanceJudged
  try dsimp only
  (repeat' split) <;> repeat' first
    | with_reducible exact h
    | with_reducible apply range_touchCopy
    | with_reducible apply range_onLc
    | (intro hr; exact hr)

theorem range_advanceRejected (s : State) (h : s.InRange) : (advanceRejected s).InRange := by
  unfold advanceRejected
  try dsimp only
  (repeat' split) <;> repeat' first
    | with_reducible exact h
    | with_reducible apply range_touchCopy
    | with_reducible apply range_onLc
    | (intro hr; exact hr)

theorem range_advanceUnqueued (s : State) (h : s.InRange) : (advanceUnqueued s).InRange := by
  unfold advanceUnqueued
  try dsimp only
  (repeat' split) <;> repeat' first
    | with_reducible exact h
    | with_reducible apply range_touchCopy
    | with_reducible apply range_onLc
    | (intro hr; exact hr)

theorem range_advanceUnderruns (s : State) (h : s.InRange) : (advanceUnderruns s).InRange := by
  unfold advanceUnderruns
  try dsimp only
  (repeat' split) <;> repeat' first
    | with_reducible exact h
    | with_reducible apply range_touchCopy
    | with_reducible apply range_onAudio
    | (intro hr; exact hr)

theorem range_retime (s : State) (h : s.InRange) : (retime s).InRange :=
  range_onClock h _ (fun hr n => by
    have := hr n
    cases n <;> exact Nat.le_trans (Nat.le_of_eq (Timer.retime_left ..)) this)

theorem range_arm (n : TimerName) (ms : Nat) (s : State) (h : s.InRange) (hm : ms ≤ n.longest) : (arm n ms s).InRange :=
  range_onClock h _ (fun hr => Clock.put_inRange hr hm)

theorem range_cancel (n : TimerName) (s : State) (h : s.InRange) : (cancel n s).InRange :=
  range_onClock h _ (fun hr => Clock.put_inRange hr (Nat.zero_le _))

theorem range_tickClock (s : State) (h : s.InRange) : (tickClock s).InRange :=
  range_onClock h _ (fun hr n => by
    have := hr n
    cases n <;> exact Nat.le_trans (Timer.tick_left_le _) this)

theorem range_takeExpiry (n : TimerName) (s : State) (h : s.InRange) : (takeExpiry n s).InRange :=
  range_onClock h _ (fun hr => Clock.put_inRange hr (hr n))

theorem range_cutRamp (s : State) (h : s.InRange) : (cutRamp s).InRange := by
  exact range_onAudio h _ (fun hr => Audio.cut_inRange hr _ _ _)

theorem range_hushRamp (s : State) (h : s.InRange) : (hushRamp s).InRange := by
  exact range_onAudio h _ (fun hr => Audio.hushCut_inRange hr)

theorem range_writeSample (code : Byte) (k : Nat) (s : State) (h : s.InRange)
    (hl : s.audio.buffer.length < Config.bufferDepth) : (writeSample code k s).InRange := by
  unfold writeSample
  split
  · exact h
  · exact range_onAudio h _ (fun hr => ⟨by simp only [List.length_append, List.length_singleton]; omega, hr.2⟩)

theorem range_placeMark (s : State) (h : s.InRange) : (placeMark s).InRange := by
  unfold placeMark
  try dsimp only
  (repeat' split) <;> repeat' first
    | with_reducible exact h
    | with_reducible apply range_onAudio
    | (intro hr; exact hr)

theorem range_sendFrame (v : Int) (s : State) (h : s.InRange) : (sendFrame v s).InRange := by
  unfold sendFrame
  try dsimp only
  (repeat' split) <;> repeat' first
    | with_reducible exact h
    | with_reducible apply range_onAudio
    | (intro hr; exact hr)

theorem range_emptySlot (s : State) (h : s.InRange) : (emptySlot s).InRange := by
  unfold emptySlot
  try dsimp only
  (repeat' split) <;> repeat' first
    | with_reducible exact h
    | with_reducible apply range_advanceUnderruns
    | with_reducible apply range_onAudio
    | (intro hr; exact hr)

theorem range_slot (s : State) (h : s.InRange) : (slot s).InRange := by
  unfold slot
  split
  · exact range_onAudio (range_onAudio h _ (fun hr => hr)) _ (fun hr => hr)
  · rename_i heq _
    refine range_onAudio (range_onAudio h _ (fun hr => ?_)) _ (fun hr => hr)
    have := hr.1
    rw [heq] at this
    simp only [List.length_cons] at this
    exact ⟨by dsimp only; omega, hr.2.1, hr.2.2.1, hr.2.2.2.1, by have := hr.2.2.2.2; dsimp only; omega⟩
  · exact range_onAudio (range_emptySlot _ h) _ (fun hr => hr)

theorem range_takeVolume (s : State) (h : s.InRange) : (takeVolume s).InRange := by
  exact range_onAudio h _ (fun hr => ⟨hr.1, h.lc.2.2.1.2.2.2.2.2.2.2.2.2.2.2.2.2.2.2.2.1, hr.2.2⟩)

theorem range_routeKey (e : KeyEvent) (s : State) (h : s.InRange) : (routeKey e s).InRange := by
  unfold routeKey
  split
  · exact range_onScanner h _ (fun hr => Scanner.arrive_inRange hr _)
  · exact range_onScanner h _ (fun hr => Scanner.passKey_inRange hr _)

theorem range_classifyKey (p : Nat) (time : Word) (s : State) (h : s.InRange) : (classifyKey p time s).InRange := by
  unfold classifyKey
  try dsimp only
  (repeat' split) <;> repeat' first
    | with_reducible exact h
    | with_reducible apply range_routeKey
    | (intro hr; exact hr)

theorem range_acceptDown (p : Nat) (time : Word) (s : State) (h : s.InRange) : (acceptDown p time s).InRange := by
  unfold acceptDown
  dsimp only
  refine range_onScanner ?_ _ (fun hr => Scanner.setKey_inRange hr _ trivial)
  split
  · exact range_onScanner h _ (fun hr => Scanner.count_inRange hr _ _)
  · exact range_classifyKey _ _ _ h

theorem range_samplePosition (passTime : Word) (p : Nat) (down : Bool) (s : State) (h : s.InRange) : (samplePosition passTime p down s).InRange := by
  have hput : ∀ d : Debounce, d.inRange → (s.onScanner fun k => { k with keys := k.keys.set p d }).InRange :=
    fun d hd => range_onScanner h _ (fun hr => Scanner.setKey_inRange hr _ hd)
  have hone : 1 ≤ 1 ∧ 1 ≤ 14 := by decide
  have hdeb : ∀ k, ¬ k + 1 ≥ s.scanner.deb → 1 ≤ k + 1 ∧ k + 1 ≤ 14 := fun k hk => by
    have := h.scanner.2.2.1; omega
  unfold samplePosition
  dsimp only
  split
  · exact hput _ hone
  · exact h
  · split
    · exact range_acceptDown _ _ _ h
    · exact hput _ (hdeb _ ‹_›)
  · exact hput _ trivial
  · exact h
  · exact hput _ hone
  · exact hput _ trivial
  · split
    · exact hput _ trivial
    · exact hput _ (hdeb _ ‹_›)

theorem range_scanPass (t : Word) (keys : BitVec 64) (s : State) (h : s.InRange) : (scanPass t keys s).InRange := by
  unfold scanPass
  generalize List.range 64 = l
  induction l generalizing s with
  | nil => exact h
  | cons p l ih => exact ih _ (range_samplePosition t p _ s h)

theorem range_beginRewrite (s : State) (h : s.InRange) : (beginRewrite s).InRange := by
  unfold beginRewrite
  try dsimp only
  (repeat' split) <;> repeat' first
    | with_reducible exact h
    | with_reducible apply range_onLine
    | (intro hr; exact hr)

theorem range_redraw (s : State) (h : s.InRange) : (redraw s).InRange := by
  unfold redraw
  try dsimp only
  (repeat' split) <;> repeat' first
    | with_reducible exact h
    | with_reducible apply range_beginRewrite
    | with_reducible apply range_onLine
    | (intro hr; exact hr)

theorem range_openLine (card : Word) (s : State) (h : s.InRange) : (openLine card s).InRange := by
  unfold openLine
  try dsimp only
  (repeat' split) <;> repeat' first
    | with_reducible exact h
    | with_reducible apply range_onLine
    | (intro hr; exact hr)

theorem range_endLine (s : State) (h : s.InRange) : (endLine s).InRange := by
  unfold endLine
  try dsimp only
  (repeat' split) <;> repeat' first
    | with_reducible exact h
    | with_reducible apply range_onLine
    | (intro hr; exact hr)

theorem range_closeLine (s : State) (h : s.InRange) : (closeLine s).InRange := by
  unfold closeLine
  try dsimp only
  (repeat' split) <;> repeat' first
    | with_reducible exact h
    | with_reducible apply range_onLine
    | (intro hr; exact hr)

theorem range_abortLine (s : State) (h : s.InRange) : (abortLine s).InRange := by
  unfold abortLine
  try dsimp only
  (repeat' split) <;> repeat' first
    | with_reducible exact h
    | with_reducible apply range_closeLine
    | with_reducible apply range_onLine
    | (intro hr; exact hr)

theorem range_dropLine (s : State) (h : s.InRange) : (dropLine s).InRange := by
  unfold dropLine
  try dsimp only
  (repeat' split) <;> repeat' first
    | with_reducible exact h
    | with_reducible apply range_closeLine
    | with_reducible apply range_onLine
    | (intro hr; exact hr)

theorem range_lineAdvance (s : State) (h : s.InRange) : (lineAdvance s).InRange := by
  unfold lineAdvance
  try dsimp only
  (repeat' split) <;> repeat' first
    | with_reducible exact h
    | with_reducible apply range_beginRewrite
    | with_reducible apply range_onLine
    | (intro hr; exact hr)

theorem range_discardReads (s : State) (h : s.InRange) : (discardReads s).InRange := by
  refine range_onPort h _ (fun hr => ?_)
  split <;> exact hr

theorem range_dropDone (s : State) (h : s.InRange) : (dropDone s).InRange := by
  refine range_onSpeech (range_onPort h _ (fun hr => ?_)) _ (fun hr => hr)
  split <;> exact hr

theorem range_markWords (ks : List Nat) (s : State) (h : s.InRange) : (markWords ks s).InRange := by
  unfold markWords
  try dsimp only
  (repeat' split) <;> repeat' first
    | with_reducible exact h
    | with_reducible apply range_onEngine
    | (intro hr; exact hr)

theorem range_reportUnspoken (s : State) (h : s.InRange) : (reportUnspoken s).InRange := by
  unfold reportUnspoken
  try dsimp only
  (repeat' split) <;> repeat' first
    | with_reducible exact h
    | with_reducible apply range_markWords
    | with_reducible apply range_onEngine
    | (intro hr; exact hr)

theorem range_reportForced (n : Nat) (s : State) (h : s.InRange) : (reportForced n s).InRange := by
  unfold reportForced
  try dsimp only
  (repeat' split) <;> repeat' first
    | with_reducible exact h
    | with_reducible apply range_markWords
    | with_reducible apply range_onEngine
    | (intro hr; exact hr)

theorem range_addWords (ws : List (List UnitRef)) (gapMs : Nat) (s : State) (h : s.InRange) : (addWords ws gapMs s).InRange := by
  unfold addWords
  try dsimp only
  (repeat' split) <;> repeat' first
    | with_reducible exact h
    | with_reducible apply range_reportForced
    | with_reducible apply range_onSpeech
    | (intro hr; exact hr)

theorem range_planMore (ps : List Part) (s : State) (h : s.InRange) : (planMore ps s).InRange := by
  induction ps generalizing s with
  | nil => exact range_onSpeech h _ (fun hr => hr)
  | cons p ps ih =>
    unfold planMore
    split
    · exact ih _ (range_addWords _ _ _ h)
    · exact ih _ (range_onSpeech h _ (fun hr => hr))
    · exact ih _ (range_addWords _ _ _ (range_reportUnspoken _ h))
    · exact range_onSpeech h _ (fun hr => hr)

theorem range_absorbBad (s : State) (h : s.InRange) : (absorbBad s).InRange := by
  unfold absorbBad
  exact range_onSpeech h (fun c => c.resolved _) (fun hr => Speech.resolved_inRange hr _)

theorem range_enterFill (s : State) (h : s.InRange) : (enterFill s).InRange := by
  unfold enterFill
  try dsimp only
  (repeat' split) <;> repeat' first
    | with_reducible exact h
    | with_reducible apply range_absorbBad
    | with_reducible apply range_onSpeech
    | (intro hr; exact hr)

theorem range_gatherMore (s : State) (h : s.InRange) : (gatherMore s).InRange := by
  unfold gatherMore
  try dsimp only
  (repeat' split) <;> repeat' first
    | with_reducible exact h
    | with_reducible apply range_absorbBad
    | with_reducible apply range_enterFill
    | (intro hr; exact hr)

theorem range_beginPhrase (n : Nat) (replayed : Bool) (s : State) (h : s.InRange) : (beginPhrase n replayed s).InRange := by
  unfold beginPhrase
  try dsimp only
  (repeat' split) <;> repeat' first
    | with_reducible exact h
    | with_reducible apply range_placeMark
    | with_reducible apply range_gatherMore
    | with_reducible apply range_onSpeech
    | (intro hr; exact hr)

theorem range_awaitEnd (s : State) (h : s.InRange) : (awaitEnd s).InRange := by
  unfold awaitEnd
  try dsimp only
  (repeat' split) <;> repeat' first
    | with_reducible exact h
    | with_reducible apply range_placeMark
    | with_reducible apply range_onSpeech
    | (intro hr; exact hr)

theorem range_beginPlan (s : State) (h : s.InRange) : (beginPlan s).InRange := by
  unfold beginPlan
  try dsimp only
  (repeat' split) <;> repeat' first
    | with_reducible exact h
    | with_reducible apply range_beginPhrase
    | with_reducible apply range_awaitEnd
    | (intro hr; exact hr)

theorem range_makePlan (s : State) (h : s.InRange) : (makePlan s).InRange := by
  unfold makePlan
  try dsimp only
  (repeat' split) <;> repeat' first
    | with_reducible exact h
    | with_reducible apply range_planMore
    | with_reducible apply range_beginPlan
    | with_reducible apply range_onSpeech
    | (intro hr; exact hr)

theorem range_startHead (s : State) (h : s.InRange) : (startHead s).InRange := by
  unfold startHead
  refine range_makePlan _ (range_onSpeech h _ (fun hr => ⟨?_, hr.2.1, hr.2.2.1, hr.2.2.2.1, Context.settings_inRange h.lc.2.2.1⟩))
  have := hr.1
  split <;> rename_i hq <;> simpa [hq] using this

theorem range_tryStart (s : State) (h : s.InRange) : (tryStart s).InRange := by
  unfold tryStart
  try dsimp only
  (repeat' split) <;> repeat' first
    | with_reducible exact h
    | with_reducible apply range_startHead
    | (intro hr; exact hr)

theorem range_finishGap (s : State) (h : s.InRange) : (finishGap s).InRange := by
  unfold finishGap
  try dsimp only
  (repeat' split) <;> repeat' first
    | with_reducible exact h
    | with_reducible apply range_beginPhrase
    | with_reducible apply range_awaitEnd
    | with_reducible apply range_tryStart
    | with_reducible apply range_onSpeech
    | (intro hr; exact hr)

theorem range_enterGap (kind : GapKind) (n : Nat) (s : State) (h : s.InRange) : (enterGap kind n s).InRange := by
  unfold enterGap
  try dsimp only
  (repeat' split) <;> repeat' first
    | with_reducible exact h
    | with_reducible apply range_finishGap
    | with_reducible apply range_onSpeech
    | (intro hr; exact hr)

theorem range_trailingPause (s : State) (h : s.InRange) : (trailingPause s).InRange := by
  unfold trailingPause
  try dsimp only
  (repeat' split) <;> repeat' first
    | with_reducible exact h
    | with_reducible apply range_enterGap
    | (intro hr; exact hr)

theorem filter_range {c : Speech} (h : c.inRange) (p : Utterance → Bool) : (c.queue.filter p).length ≤ 4 :=
  Nat.le_trans (List.length_filter_le _ _) h.1

theorem removeYoungest_length (p : Utterance → Bool) (q : List Utterance) (h : q.any p = true) :
    (removeYoungest p q).length + 1 = q.length := by
  unfold removeYoungest
  have hm : ∃ a ∈ q.reverse, p a = true := by
    simpa [List.any_eq_true] using h
  obtain ⟨a, ha, hp⟩ := hm
  rw [List.length_reverse, List.length_eraseP_of_mem ha hp, List.length_reverse]
  have : 0 < q.length := by
    have := List.length_pos_of_mem ha
    simpa using this
  omega

theorem roomFor_length {kind : UtteranceKind} {q q' : List Utterance} {n : Nat} (h : roomFor kind q = some (q', n))
    (hq : q.length ≤ Config.utteranceDepth) : q'.length < Config.utteranceDepth := by
  have k1 : (!decide (Config.utteranceDepth ≤ q.length)) = true → some (q, 0) = some (q', n) →
      q'.length < Config.utteranceDepth := by
    intro hl h
    simp only [Option.some.injEq, Prod.mk.injEq] at h
    obtain ⟨rfl, _⟩ := h
    simpa using hl
  have k2 : ∀ p : Utterance → Bool, q.any p = true → some (removeYoungest p q, 1) = some (q', n) →
      q'.length < Config.utteranceDepth := by
    intro p hp h
    simp only [Option.some.injEq, Prod.mk.injEq] at h
    obtain ⟨rfl, _⟩ := h
    have := removeYoungest_length p q hp
    omega
  unfold roomFor at h
  cases kind <;> dsimp only at h <;> split at h
  case feedback.isTrue hl =>
    simp only [Option.some.injEq, Prod.mk.injEq] at h
    obtain ⟨rfl, _⟩ := h
    exact hl
  case feedback.isFalse => cases h
  all_goals first
    | exact k1 ‹_› h
    | (split at h
       · exact k2 _ ‹_› h
       · cases h)

theorem range_place (k : UtteranceKind) (ps : List Part) (s : State) (h : s.InRange) : (place k ps s).1.InRange := by
  unfold place
  split
  · exact range_onSpeech h (·.count _ _) (fun hr => Speech.count_inRange hr _ _)
  · split
    · exact range_onSpeech h (·.count _ _) (fun hr => Speech.count_inRange hr _ _)
    · rename_i q lost hroom
      have hlen := roomFor_length hroom h.speech.1
      have h1 : (s.onSpeech fun c => Speech.count
          { c with
            queue := q ++ [{ seq := (s.speech.seq + 1) % 256, kind := k, parts := ps, bank := s.lc.active.bank }]
            seq := (s.speech.seq + 1) % 256 } .echoDropped lost).InRange := by
        refine range_onSpeech h _ (fun hr => ?_)
        apply Speech.count_inRange
        refine ⟨?_, ?_, hr.2.2⟩
        · simp only [List.length_append, List.length_singleton]; omega
        · dsimp only; omega
      dsimp only
      split
      · exact range_onSpeech h1 _ (fun hr => hr)
      · exact range_tryStart _ h1

theorem range_placeLoose (kind : UtteranceKind) (parts : List Part) (s : State) (h : s.InRange) : (placeLoose kind parts s).InRange := by
  unfold placeLoose
  try dsimp only
  (repeat' split) <;> repeat' first
    | with_reducible exact h
    | with_reducible apply range_place
    | (intro hr; exact hr)

theorem range_cancelHandoff (s : State) (h : s.InRange) : (cancelHandoff s).InRange := by
  unfold cancelHandoff
  try dsimp only
  (repeat' split) <;> repeat' first
    | with_reducible exact h
    | with_reducible apply range_cancel
    | with_reducible apply range_onSpeech
    | with_reducible apply range_dropDone
    | (intro hr; exact hr)

theorem range_cutPlaying (s : State) (h : s.InRange) : (cutPlaying s).InRange := by
  unfold cutPlaying
  have h1 : ((cancelHandoff (discardReads (cutRamp s))).onSpeech fun c => { c.clearPlan with queue := c.queue.tail }).InRange :=
    range_onSpeech (range_cancelHandoff _ (range_discardReads _ (range_cutRamp _ h))) _
      (fun hr => Speech.queue_inRange hr (by simp) rfl rfl rfl rfl)
  dsimp only
  split
  · exact range_onSpeech h1 _ (fun hr => hr)
  · exact range_enterGap _ _ _ h1

theorem range_cutHeld (s : State) (h : s.InRange) : (cutHeld s).InRange := by
  unfold cutHeld
  have h1 : (s.onSpeech fun c => { c.clearPlan with queue := c.queue.tail, replay := .start }).InRange :=
    range_onSpeech h _ (fun hr => Speech.queue_inRange hr (by simp) rfl rfl rfl rfl)
  dsimp only
  split
  · exact range_cancel _ _ (range_onSpeech h1 _ (fun hr => hr))
  · exact h1

theorem range_cutQueued (seq : Nat) (s : State) (h : s.InRange) : (cutQueued seq s).InRange := by
  unfold cutQueued
  have h1 : (s.onSpeech fun c => { c with queue := c.queue.filter (·.seq ≠ seq) }).InRange :=
    range_onSpeech h _ (fun hr => Speech.queue_inRange hr (List.length_filter_le ..) rfl rfl rfl rfl)
  dsimp only
  split
  · exact range_onSpeech h1 _ (fun hr => hr)
  · exact h1

theorem range_cut (seq : Nat) (s : State) (h : s.InRange) : (cut seq s).InRange := by
  unfold cut
  try dsimp only
  (repeat' split) <;> repeat' first
    | with_reducible exact h
    | with_reducible apply range_cutPlaying
    | with_reducible apply range_cutHeld
    | with_reducible apply range_cutQueued
    | (intro hr; exact hr)

theorem range_flushSpeech (s : State) (h : s.InRange) : (flushSpeech s).InRange := by
  unfold flushSpeech
  split
  · exact h
  · dsimp only
    refine range_onSpeech ?_ _ (fun hr => Speech.queue_inRange hr (Nat.zero_le _) rfl rfl rfl rfl)
    repeat' first
      | with_reducible apply range_cancel
      | with_reducible apply range_cancelHandoff
      | with_reducible apply range_discardReads
      | with_reducible apply range_cutRamp
      | with_reducible exact h
      | split

theorem range_endSpeech (s : State) (h : s.InRange) : (endSpeech s).InRange := range_cancel _ _ (range_flushSpeech _ h)

theorem range_freezeRecord (s : State) (h : s.InRange) : (freezeRecord s).InRange := by
  unfold freezeRecord
  try dsimp only
  (repeat' split) <;> repeat' first
    | with_reducible exact h
    | with_reducible apply range_onPort
    | (intro hr; exact hr)

theorem range_engineIdle (s : State) (h : s.InRange) : (engineIdle s).InRange := by
  exact range_onEngine (range_cancel _ _ (range_cancel _ _ (range_freezeRecord _ h))) _ (fun _ => Engine.idle_inRange)

theorem range_walkerAbort (s : State) (h : s.InRange) : (walkerAbort s).InRange := by
  unfold walkerAbort
  split <;> repeat' first
    | with_reducible exact h
    | with_reducible apply range_onPort
    | with_reducible apply range_onWalker
    | (intro hr; exact hr)
    | (intro hr; exact ⟨hr.1, trivial⟩)

theorem range_presentationEnded (final : Option FinalTry) (s : State) (h : s.InRange) : (presentationEnded final s).InRange := by
  refine range_onLc h _ (fun hr => ?_)
  split
  · exact hr
  · rename_i cur hc
    split
    · rename_i img f hi
      have := hr.2.2.2.1 cur hc
      rw [hi] at this
      exact decideWord_inRange hr this f
    · exact decideSay_inRange hr (hr.2.2.2.1 cur hc)

theorem range_presentStart (cur : Current) (s : State) (h : s.InRange) (hc : cur.image.inRange) :
    (presentStart cur s).InRange :=
  range_takeVolume _ (range_onLc h _ (fun hr => ⟨hr.1, hr.2.1, h.walker.1, by
    intro c hcur
    cases hcur
    exact hc, hr.2.2.2.2⟩))

theorem range_presentSlot (s : State) (h : s.InRange) : (presentSlot s).InRange := by
  unfold presentSlot
  exact range_presentStart _ _ (range_onWalker h _ (fun hr => by exact ⟨hr.1, trivial⟩)) h.walker.2

theorem range_presentReview (s : State) (h : s.InRange) : (presentReview s).InRange := by
  unfold presentReview
  split
  · exact h
  · rename_i e rest hq
    have he := h.lc.2.1 e (by rw [hq]; exact List.mem_cons_self ..)
    refine range_presentStart _ _ (range_onLc h _ (fun hr => ⟨?_, ?_, hr.2.2⟩)) he.2
    · have := hr.1; rw [hq] at this; simp only [List.length_cons] at this; dsimp only; omega
    · intro x hx; exact hr.2.1 x (by rw [hq]; exact List.mem_cons_of_mem _ hx)

theorem range_beginClosing (why : CloseWhy) (s : State) (h : s.InRange) : (beginClosing why s).InRange := by
  exact range_endSpeech _ (range_onScanner (range_onLc h _ (fun hr => hr)) _ (fun hr => by exact Scanner.flushAll_inRange hr))

theorem range_closeEnded (s : State) (h : s.InRange) : (closeEnded s).InRange := by
  unfold closeEnded
  try dsimp only
  (repeat' split) <;> repeat' first
    | with_reducible exact h
    | with_reducible apply range_beginClosing
    | with_reducible apply range_onLc
    | with_reducible apply range_onWalker
    | (intro hr; exact hr)

theorem range_starve (resumed : Bool) (s : State) (h : s.InRange) : (starve resumed s).InRange := by
  unfold starve
  try dsimp only
  (repeat' split) <;> repeat' first
    | with_reducible exact h
    | with_reducible apply range_setEvent
    | with_reducible apply range_touchMirror
    | with_reducible apply range_onLc
    | (intro hr; exact hr)

theorem range_choose (resumed : Bool) (s : State) (h : s.InRange) : (choose resumed s).InRange := by
  unfold choose
  try dsimp only
  (repeat' split) <;> repeat' first
    | with_reducible exact h
    | with_reducible apply range_presentSlot
    | with_reducible apply range_presentReview
    | with_reducible apply range_closeEnded
    | with_reducible apply range_starve
    | (intro hr; exact hr)

theorem range_walkerReport (s : State) (h : s.InRange) : (walkerReport s).InRange := by
  unfold walkerReport
  try dsimp only
  (repeat' split) <;> repeat' first
    | with_reducible exact h
    | with_reducible apply range_choose
    | (intro hr; exact hr)

theorem range_stopLesson (why : CloseWhy) (s : State) (h : s.InRange) : (stopLesson why s).InRange := by
  unfold stopLesson
  try dsimp only
  (repeat' split) <;> repeat' first
    | with_reducible exact h
    | with_reducible apply range_abortLine
    | with_reducible apply range_engineIdle
    | with_reducible apply range_beginClosing
    | (intro hr; exact hr)

theorem range_giveBackNext (why : CloseWhy) (s : State) (h : s.InRange) : (giveBackNext why s).InRange := by
  unfold giveBackNext
  try dsimp only
  (repeat' split) <;> repeat' first
    | with_reducible exact h
    | with_reducible apply range_onLc
    | (intro hr; exact hr)

theorem range_enterEnded (s : State) (h : s.InRange) : (enterEnded s).InRange := by
  exact range_coalesceEnded _ (range_setEvent _ _ (range_onLc (range_onWalker h _ (fun hr => by exact ⟨hr.1, trivial⟩)) _ (fun hr => hr)))

theorem range_enterFaulted (code : FaultCode) (ref : Word) (detail : Word) (s : State) (h : s.InRange) : (enterFaulted code ref detail s).InRange := by
  exact range_onLc (range_onWalker (range_onPort h _ (fun hr => hr)) _ (fun hr => by exact ⟨hr.1, trivial⟩)) _ (fun hr => hr)

theorem range_enterStopped (s : State) (h : s.InRange) : (enterStopped s).InRange :=
  range_onLc (range_onWalker h _ (fun hr => by exact ⟨hr.1, trivial⟩)) _ (fun hr => hr)

theorem range_copiesNext (why : CloseWhy) (s : State) (h : s.InRange) : (copiesNext why s).InRange := by
  unfold copiesNext
  try dsimp only
  (repeat' split) <;> repeat' first
    | with_reducible exact h
    | with_reducible apply range_enterEnded
    | with_reducible apply range_onLc
    | (intro hr; exact hr)

theorem range_startEndChain (s : State) (h : s.InRange) : (startEndChain s).InRange := by
  unfold startEndChain
  split
  · rename_i e he
    split
    · exact h
    · exact range_onLc h _ (fun hr => ⟨hr.1, hr.2.1, hr.2.2.1, hr.2.2.2.1, by rintro x ⟨⟩; exact hr.2.2.2.2 e he⟩)
  · exact h

theorem range_lcAdvance (s : State) (h : s.InRange) : (lcAdvance s).InRange := by
  unfold lcAdvance
  try dsimp only
  (repeat' split) <;> repeat' first
    | with_reducible exact h
    | with_reducible apply range_giveBackNext
    | with_reducible apply range_copiesNext
    | with_reducible apply range_startEndChain
    | with_reducible apply range_onLc
    | (intro hr; exact hr)

theorem range_cardGivenBack (s : State) (h : s.InRange) : (cardGivenBack s).InRange := by
  unfold cardGivenBack
  apply range_advanceRetired
  split
  · exact range_onLc h _ (fun hr => ⟨hr.1, hr.2.1, hr.2.2.1, by simp, hr.2.2.2.2⟩)
  · split
    · rename_i hq
      refine range_touchMirror _ (range_onLc h _ (fun hr => ⟨?_, ?_, hr.2.2⟩))
      · have := hr.1; rw [hq] at this; simp only [List.length_cons] at this; dsimp only; omega
      · intro x hx; exact hr.2.1 x (by rw [hq]; exact List.mem_cons_of_mem _ hx)
    · refine range_onWalker h _ (fun hr => ?_)
      unfold Walker.gaveBack
      split <;> exact ⟨hr.1, trivial⟩

theorem range_endHeaderDone (s : State) (h : s.InRange) : (endHeaderDone s).InRange := by
  have hnone : ∀ t : State, t.InRange → (t.onLc fun l => { l with current := none }).InRange :=
    fun t ht => range_onLc ht _ (fun hr => ⟨hr.1, hr.2.1, hr.2.2.1, by simp, hr.2.2.2.2⟩)
  unfold endHeaderDone
  dsimp only
  repeat' first
    | with_reducible exact h
    | with_reducible apply range_advanceUnqueued
    | with_reducible apply range_advanceRetired
    | with_reducible apply hnone
    | with_reducible apply range_advanceJudged
    | split

theorem range_endDone (s : State) (h : s.InRange) : (endDone s).InRange := by
  exact range_choose _ _ (range_onScanner (range_onLc h _ (fun hr => ⟨hr.1, hr.2.1, hr.2.2.1, hr.2.2.2.1, by simp⟩)) _ (fun hr => Scanner.flushLetters_inRange hr))

theorem range_lcAfter (a : LcAfter) (s : State) (h : s.InRange) : (lcAfter a s).InRange := by
  unfold lcAfter
  try dsimp only
  (repeat' split) <;> repeat' first
    | with_reducible exact h
    | with_reducible apply range_setEvent
    | with_reducible apply range_coalesceEnd
    | with_reducible apply range_advanceRetired
    | with_reducible apply range_enterFaulted
    | with_reducible apply range_enterStopped
    | with_reducible apply range_cardGivenBack
    | with_reducible apply range_endHeaderDone
    | with_reducible apply range_endDone
    | with_reducible apply range_onLc
    | with_reducible apply range_onWalker
    | (intro hr; exact hr)
    | exact fun hr => ⟨hr.1, trivial⟩

theorem range_discardAll (s : State) (h : s.InRange) : (discardAll s).InRange := by
  unfold discardAll
  refine range_onEngine (range_dropLine _ (range_onSpeech (range_onLc (range_onScanner (range_onPort h _ ?_) _ ?_) _ ?_) _ ?_)) _ ?_
  · exact fun hr => hr
  · exact fun hr => Scanner.passLost_inRange hr
  · exact fun hr => hr
  · exact fun hr => hr
  · exact fun hr => hr

theorem range_busFault (s : State) (h : s.InRange) : (busFault s).InRange := by
  unfold busFault
  refine range_setEvent _ _ (range_onPort (range_onLc (range_onWalker (range_dropLine _ (range_engineIdle _
    (range_endSpeech _ (range_onScanner h _ (fun hr => by exact Scanner.flushAll_inRange hr))))) _ (fun hr => by exact ⟨hr.1, trivial⟩)) _
    (fun hr => ⟨Nat.zero_le _, by simp, hr.2.2.1, by simp, by simp⟩)) _ (fun hr => hr))

theorem range_cutPrompt (s : State) (h : s.InRange) : (cutPrompt s).InRange := by
  unfold cutPrompt
  try dsimp only
  (repeat' split) <;> repeat' first
    | with_reducible exact h
    | with_reducible apply range_cut
    | with_reducible apply range_onEngine
    | (intro hr; exact hr)

theorem range_placePrompt (parts : List Part) (s : State) (h : s.InRange) : (placePrompt parts s).InRange := by
  unfold placePrompt
  try dsimp only
  (repeat' split) <;> repeat' first
    | with_reducible exact h
    | with_reducible apply range_cutPrompt
    | with_reducible apply range_place
    | with_reducible apply range_onEngine
    | (intro hr; exact hr)

theorem range_armReprompt (s : State) (h : s.InRange) : (armReprompt s).InRange :=
  range_arm _ _ _ h (Context.reprompt_le h.lc.2.2.1)

theorem range_enterListening (s : State) (h : s.InRange) : (enterListening s).InRange := by
  unfold enterListening
  try dsimp only
  (repeat' split) <;> repeat' first
    | with_reducible exact h
    | with_reducible apply range_armReprompt
    | with_reducible apply range_onEngine
    | (intro hr; exact hr)

theorem range_startTry (tryNo : Nat) (s : State) (h : s.InRange) : (startTry tryNo s).InRange := by
  unfold startTry
  dsimp only
  have h1 := range_onEngine h (·.newTry tryNo s.clock.time) (fun hr => Engine.newTry_inRange hr _ _)
  repeat' first
    | with_reducible exact h1
    | with_reducible apply range_redraw
    | with_reducible apply range_markWords
    | with_reducible apply range_placePrompt
    | with_reducible apply range_onEngine
    | (intro hr; exact hr)
    | split

theorem range_handOverWord (card : Word) (img : WordImage) (review : Bool) (s : State) (h : s.InRange) (hi : img.inRange) :
    (handOverWord card img review s).InRange :=
  range_startTry _ _ (range_openLine _ _ (range_onEngine h _ (fun _ => ⟨hi, Engine.idle_inRange.2⟩)))

theorem range_placeSay (s : State) (h : s.InRange) : (placeSay s).InRange := by
  unfold placeSay
  try dsimp only
  (repeat' split) <;> repeat' first
    | with_reducible exact h
    | with_reducible apply range_place
    | with_reducible apply range_onEngine
    | (intro hr; exact hr)

theorem range_handOverSay (card : Word) (ref : Word) (s : State) (h : s.InRange) : (handOverSay card ref s).InRange := by
  unfold handOverSay
  have h1 : (s.onEngine fun _ => { state := .speaking, card := card, sayRef := ref }).InRange :=
    range_onEngine h _ (fun _ => Engine.idle_inRange)
  dsimp only
  split
  · exact range_onEngine h1 _ (fun hr => hr)
  · exact range_placeSay _ h1

theorem range_placeFeedback (s : State) (h : s.InRange) : (placeFeedback s).InRange := by
  unfold placeFeedback
  try dsimp only
  (repeat' split) <;> repeat' first
    | with_reducible exact h
    | with_reducible apply range_place
    | with_reducible apply range_onEngine
    | (intro hr; exact hr)

theorem range_verdict (v : Verdict) (j : Judged) (s : State) (h : s.InRange) : (verdict v j s).InRange := by
  unfold verdict
  try dsimp only
  (repeat' split) <;> repeat' first
    | with_reducible exact h
    | with_reducible apply range_cancel
    | with_reducible apply range_redraw
    | with_reducible apply range_markWords
    | with_reducible apply range_cutPrompt
    | with_reducible apply range_placeFeedback
    | with_reducible apply range_onEngine
    | (intro hr; exact hr)

theorem range_verdictUnjudged (v : Verdict) (s : State) (h : s.InRange) : (verdictUnjudged v s).InRange := by
  unfold verdictUnjudged
  try dsimp only
  (repeat' split) <;> repeat' first
    | with_reducible exact h
    | with_reducible apply range_verdict
    | (intro hr; exact hr)

theorem range_verdictLive (alt : Nat) (s : State) (h : s.InRange) : (verdictLive alt s).InRange := by
  unfold verdictLive
  try dsimp only
  (repeat' split) <;> repeat' first
    | with_reducible exact h
    | with_reducible apply range_verdict
    | (intro hr; exact hr)

theorem range_echoLetter (c : Nat) (s : State) (h : s.InRange) : (echoLetter c s).InRange := by
  unfold echoLetter
  try dsimp only
  (repeat' split) <;> repeat' first
    | with_reducible exact h
    | with_reducible apply range_placeLoose
    | (intro hr; exact hr)

theorem range_placeCue (n : Nat) (s : State) (h : s.InRange) : (placeCue n s).InRange := by
  unfold placeCue
  try dsimp only
  (repeat' split) <;> repeat' first
    | with_reducible exact h
    | with_reducible apply range_placeLoose
    | (intro hr; exact hr)

theorem range_captureLetter (s : State) (h : s.InRange) : (captureLetter s).InRange := by
  unfold captureLetter
  try dsimp only
  (repeat' split) <;> repeat' first
    | with_reducible exact h
    | with_reducible apply range_onEngine
    | (intro hr; exact hr)

theorem range_appendLetter (c : Nat) (s : State) (h : s.InRange) (hl : s.engine.trail.length < Config.trailMax) :
    (appendLetter c s).InRange := by
  unfold appendLetter
  dsimp only
  refine range_redraw _ (range_markWords _ _ (range_echoLetter _ _ (range_onEngine h _ (fun hr =>
    ⟨hr.1, ?_, hr.2.2.1, hr.2.2.2.1, hr.2.2.2.2.1, Nat.zero_le _, hr.2.2.2.2.2.2⟩))))
  simp only [List.length_append, List.length_singleton]
  omega

theorem range_wholeLetter (c : Nat) (s : State) (h : s.InRange) : (wholeLetter c s).InRange := by
  unfold wholeLetter
  split
  · rename_i hl
    exact range_appendLetter _ _ h hl
  · exact range_placeCue _ _ h

theorem range_wholeBack (s : State) (h : s.InRange) : (wholeBack s).InRange := by
  unfold wholeBack
  dsimp only
  split
  · exact h
  · refine range_redraw _ (range_markWords _ _ (range_onEngine h _ (fun hr => ⟨hr.1, ?_, hr.2.2⟩)))
    have := hr.2.1
    simp only [List.length_dropLast]
    omega

theorem range_revealLetter (alt : Nat) (p : Nat) (s : State) (h : s.InRange) : (revealLetter alt p s).InRange := by
  unfold revealLetter
  dsimp only
  exact range_redraw _ (range_markWords _ _ (range_placeLoose _ _ _ (range_onEngine h _
    (fun hr => ⟨hr.1, hr.2.1, Nat.min_le_left .., hr.2.2.2⟩))))

theorem range_slip (s : State) (h : s.InRange) : (slip s).InRange := by
  unfold slip
  dsimp only
  have h1 := range_markWords [1] _ (range_placeCue cueBuzz _ (range_onEngine h
    (fun e => { e with slips := min 255 (e.slips + 1) })
    (fun hr => ⟨hr.1, hr.2.1, hr.2.2.1, hr.2.2.2.1, Nat.min_le_left .., hr.2.2.2.2.2⟩)))
  split
  · exact range_revealLetter _ _ _ (range_onEngine h1 _
      (fun hr => ⟨hr.1, hr.2.1, hr.2.2.1, hr.2.2.2.1, hr.2.2.2.2.1, Nat.zero_le _, hr.2.2.2.2.2.2⟩))
  · rename_i hlt
    have hlim := h1.lc.2.2.1.2.2.1.2
    exact range_onEngine h1 _ (fun hr => ⟨hr.1, hr.2.1, hr.2.2.1, hr.2.2.2.1, hr.2.2.2.2.1,
      by dsimp only; omega, hr.2.2.2.2.2.2⟩)

theorem range_afterAccepted (s : State) (h : s.InRange) : (afterAccepted s).InRange := by
  unfold afterAccepted
  try dsimp only
  (repeat' split) <;> repeat' first
    | with_reducible exact h
    | exact Context.settle_le h.lc.2.2.1
    | with_reducible apply range_arm
    | with_reducible apply range_cancel
    | with_reducible apply range_enterListening
    | with_reducible apply range_verdictLive
    | with_reducible apply range_complete
    | with_reducible apply range_onEngine
    | (intro hr; exact hr)

theorem range_liveLetter (c : Nat) (s : State) (h : s.InRange) : (liveLetter c s).InRange := by
  unfold liveLetter
  dsimp only
  split
  · exact range_slip _ h
  · rename_i hne
    refine range_afterAccepted _ (range_appendLetter _ _ (range_onEngine h _ (fun hr => hr)) ?_)
    obtain ⟨a, ha⟩ := List.exists_mem_of_ne_nil _ hne
    have hp := (List.mem_filter.1 ha).2
    simp only [decide_eq_true_eq, Bool.decide_and, Bool.and_eq_true] at hp
    have hlen : s.engine.altLength a ≤ 24 := by
      unfold Engine.altLength
      rw [List.getD_eq_getElem?_getD]
      cases hg : s.engine.image.alternates[a - 1]? with
      | none => simp
      | some x => exact h.engine.1.1 x (List.mem_of_getElem? hg)
    show s.engine.trail.length < Config.trailMax
    have h1 := hp.1
    simp only [Config.trailMax]
    omega

theorem range_letterKey (c : Nat) (s : State) (h : s.InRange) : (letterKey c s).InRange := by
  unfold letterKey
  try dsimp only
  (repeat' split) <;> repeat' first
    | with_reducible exact h
    | with_reducible apply range_captureLetter
    | with_reducible apply range_wholeLetter
    | with_reducible apply range_liveLetter
    | (intro hr; exact hr)

theorem range_backKey (s : State) (h : s.InRange) : (backKey s).InRange := by
  unfold backKey
  try dsimp only
  (repeat' split) <;> repeat' first
    | with_reducible exact h
    | with_reducible apply range_wholeBack
    | (intro hr; exact hr)

theorem range_hintKey (s : State) (h : s.InRange) : (hintKey s).InRange := by
  unfold hintKey
  try dsimp only
  (repeat' split) <;> repeat' first
    | with_reducible exact h
    | with_reducible apply range_placeCue
    | with_reducible apply range_revealLetter
    | (intro hr; exact hr)

theorem range_countReplay (s : State) (h : s.InRange) : (countReplay s).InRange := by
  exact range_markWords _ _ (range_onEngine h _ (fun hr => ⟨hr.1, hr.2.1, hr.2.2.1, Nat.min_le_left .., hr.2.2.2.2⟩))

theorem range_repeatKey (s : State) (h : s.InRange) : (repeatKey s).InRange := by
  unfold repeatKey
  try dsimp only
  (repeat' split) <;> repeat' first
    | with_reducible exact h
    | with_reducible apply range_placePrompt
    | with_reducible apply range_countReplay
    | with_reducible apply range_onEngine
    | (intro hr; exact hr)

theorem range_submit (s : State) (h : s.InRange) : (submit s).InRange := by
  exact range_onEngine (range_onUnit (range_cancel _ _ h) _ (fun _ => AlignUnit.request_inRange ..)) _ (fun hr => hr)

theorem range_enterKey (s : State) (h : s.InRange) : (enterKey s).InRange := by
  unfold enterKey
  try dsimp only
  (repeat' split) <;> repeat' first
    | with_reducible exact h
    | with_reducible apply range_verdictLive
    | with_reducible apply range_submit
    | (intro hr; exact hr)

theorem range_keyEffect (meaning : Nat) (s : State) (h : s.InRange) : (keyEffect meaning s).InRange := by
  unfold keyEffect
  try dsimp only
  (repeat' split) <;> repeat' first
    | with_reducible exact h
    | with_reducible apply range_verdictUnjudged
    | with_reducible apply range_letterKey
    | with_reducible apply range_backKey
    | with_reducible apply range_hintKey
    | with_reducible apply range_repeatKey
    | with_reducible apply range_enterKey
    | (intro hr; exact hr)

theorem range_listenKey (meaning : Nat) (s : State) (h : s.InRange) : (listenKey meaning s).InRange := by
  unfold listenKey
  try dsimp only
  (repeat' split) <;> repeat' first
    | with_reducible exact h
    | with_reducible apply range_armReprompt
    | with_reducible apply range_keyEffect
    | (intro hr; exact hr)

theorem range_bargeCut (s : State) (h : s.InRange) : (bargeCut s).InRange := by
  unfold bargeCut
  try dsimp only
  (repeat' split) <;> repeat' first
    | with_reducible exact h
    | with_reducible apply range_markWords
    | with_reducible apply range_cutPrompt
    | with_reducible apply range_onEngine
    | (intro hr; exact hr)

theorem range_bargeKey (meaning : Nat) (s : State) (h : s.InRange) : (bargeKey meaning s).InRange := by
  unfold bargeKey
  try dsimp only
  (repeat' split) <;> repeat' first
    | with_reducible exact h
    | with_reducible apply range_placePrompt
    | with_reducible apply range_enterListening
    | with_reducible apply range_verdictUnjudged
    | with_reducible apply range_countReplay
    | with_reducible apply range_submit
    | with_reducible apply range_listenKey
    | with_reducible apply range_bargeCut
    | (intro hr; exact hr)

theorem range_sayEnded (s : State) (h : s.InRange) : (sayEnded s).InRange := by
  unfold sayEnded
  try dsimp only
  (repeat' split) <;> repeat' first
    | with_reducible exact h
    | with_reducible apply range_presentationEnded
    | with_reducible apply range_onEngine
    | (intro hr; exact hr)

theorem range_cutSay (s : State) (h : s.InRange) : (cutSay s).InRange := by
  unfold cutSay
  try dsimp only
  (repeat' split) <;> repeat' first
    | with_reducible exact h
    | with_reducible apply range_cut
    | with_reducible apply range_onEngine
    | (intro hr; exact hr)

theorem range_speakingKey (meaning : Nat) (s : State) (h : s.InRange) : (speakingKey meaning s).InRange := by
  have ht := range_onScanner h Scanner.takeHead (fun hr => Scanner.takeHead_inRange hr)
  unfold speakingKey
  split
  · exact range_sayEnded _ (range_cutSay _ ht)
  · split
    · exact range_placeSay _ (range_cutSay _ ht)
    · exact range_onScanner h _ (fun hr => Scanner.dropHead_inRange hr)

theorem range_promptingKey (meaning : Nat) (s : State) (h : s.InRange) : (promptingKey meaning s).InRange := by
  unfold promptingKey
  split
  · exact h
  · split
    · exact h
    · exact range_onScanner h _ (fun hr => Scanner.dropHead_inRange hr)
    · exact range_bargeKey _ _ (range_onScanner h _ (fun hr => Scanner.takeHead_inRange hr))

theorem range_headKey (meaning : Nat) (s : State) (h : s.InRange) : (headKey meaning s).InRange := by
  have ht := range_onScanner h Scanner.takeHead (fun hr => Scanner.takeHead_inRange hr)
  unfold headKey
  split
  · exact h
  · exact range_promptingKey _ _ h
  · exact range_listenKey _ _ ht
  · exact range_listenKey _ _ ht
  · exact h
  · exact h
  · exact range_speakingKey _ _ h
  · exact h

theorem range_promptDone (s : State) (h : s.InRange) : (promptDone s).InRange := by
  refine range_enterListening _ (range_onEngine h _ (fun hr => ?_))
  split <;> exact hr

theorem range_feedbackDone (s : State) (h : s.InRange) : (feedbackDone s).InRange := by
  unfold feedbackDone
  try dsimp only
  (repeat' split) <;> repeat' first
    | with_reducible exact h
    | with_reducible apply range_startTry
    | with_reducible apply range_onEngine
    | (intro hr; exact hr)

theorem range_promptOver (seq : Nat) (s : State) (h : s.InRange) : (promptOver seq s).InRange := by
  unfold promptOver
  split
  · exact range_onEngine h _ (fun hr => hr)
  · exact h

theorem range_utteranceDone (seq : Nat) (s : State) (h : s.InRange) : (utteranceDone seq s).InRange := by
  unfold utteranceDone
  try dsimp only
  (repeat' split) <;> repeat' first
    | with_reducible exact h
    | with_reducible apply range_sayEnded
    | with_reducible apply range_promptDone
    | with_reducible apply range_promptOver
    | with_reducible apply range_feedbackDone
    | with_reducible apply range_onEngine
    | (intro hr; exact hr)

theorem range_repromptListening (s : State) (h : s.InRange) : (repromptListening s).InRange := by
  unfold repromptListening
  try dsimp only
  have hmax := h.lc.2.2.1.2.2.2.2.2.2.2.1
  (repeat' split) <;> repeat' first
    | with_reducible exact h
    | with_reducible apply range_markWords
    | with_reducible apply range_placePrompt
    | with_reducible apply range_verdictUnjudged
    | with_reducible apply range_submit
    | with_reducible apply range_onEngine
    | (intro hr; exact hr)
    | exact fun hr => ⟨hr.1, hr.2.1, hr.2.2.1, hr.2.2.2.1, hr.2.2.2.2.1, hr.2.2.2.2.2.1, by dsimp only; omega⟩

theorem range_repromptExpired (s : State) (h : s.InRange) : (repromptExpired s).InRange := by
  unfold repromptExpired
  try dsimp only
  (repeat' split) <;> repeat' first
    | with_reducible exact h
    | with_reducible apply range_verdictLive
    | with_reducible apply range_repromptListening
    | with_reducible apply range_onEngine
    | (intro hr; exact hr)

theorem range_settleExpired (s : State) (h : s.InRange) : (settleExpired s).InRange := by
  unfold settleExpired
  try dsimp only
  (repeat' split) <;> repeat' first
    | with_reducible exact h
    | with_reducible apply range_verdictLive
    | with_reducible apply range_onEngine
    | (intro hr; exact hr)

theorem range_judgingDone (v : Verdict) (j : Judged) (s : State) (h : s.InRange) : (judgingDone v j s).InRange := by
  unfold judgingDone
  try dsimp only
  (repeat' split) <;> repeat' first
    | with_reducible exact h
    | with_reducible apply range_verdict
    | (intro hr; exact hr)

theorem range_suspend (s : State) (h : s.InRange) : (suspend s).InRange := by
  unfold suspend
  try dsimp only
  (repeat' split) <;> repeat' first
    | with_reducible exact h
    | with_reducible apply range_onEngine
    | (intro hr; exact hr)

theorem range_resumePlacement (left : AttemptState) (s : State) (h : s.InRange) : (resumePlacement left s).InRange := by
  unfold resumePlacement
  try dsimp only
  (repeat' split) <;> repeat' first
    | with_reducible exact h
    | with_reducible apply range_placePrompt
    | with_reducible apply range_placeSay
    | with_reducible apply range_placeFeedback
    | with_reducible apply range_onEngine
    | (intro hr; exact hr)

theorem range_resumeEngine (s : State) (h : s.InRange) : (resumeEngine s).InRange := by
  unfold resumeEngine
  try dsimp only
  (repeat' split) <;> repeat' first
    | with_reducible exact h
    | with_reducible apply range_repromptExpired
    | with_reducible apply range_settleExpired
    | with_reducible apply range_resumePlacement
    | with_reducible apply range_onEngine
    | (intro hr; exact hr)

theorem range_completeHead (s : State) (h : s.InRange) : (completeHead s).InRange := by
  unfold completeHead
  split
  · exact h
  · rename_i hq
    refine range_utteranceDone _ _ (range_tryStart _ (range_onSpeech h _ (fun hr => Speech.queue_inRange hr ?_ rfl rfl rfl rfl)))
    show _ ≤ s.speech.queue.length
    rw [hq]; exact Nat.le_succ _

theorem range_stringDone (s : State) (h : s.InRange) : (stringDone s).InRange := by
  unfold stringDone
  try dsimp only
  (repeat' split) <;> repeat' first
    | with_reducible exact h
    | with_reducible apply range_addWords
    | with_reducible apply range_planMore
    | with_reducible apply range_beginPhrase
    | with_reducible apply range_completeHead
    | with_reducible apply range_onSpeech
    | (intro hr; exact hr)

theorem range_stringWord (ref : Nat) (w : Word) (s : State) (h : s.InRange) : (stringWord ref w s).InRange := by
  unfold stringWord
  try dsimp only
  (repeat' split) <;> repeat' first
    | with_reducible exact h
    | with_reducible apply range_stringDone
    | with_reducible apply range_onSpeech
    | (intro hr; exact hr)

theorem range_headerWordRead (u : UnitRef) (w : Word) (s : State) (h : s.InRange) : (headerWordRead u w s).InRange := by
  unfold headerWordRead
  dsimp only
  split
  · exact range_onSpeech h _ (fun hr => hr)
  · exact range_gatherMore _ (range_onSpeech h _ (fun hr => Speech.resolved_inRange (c := { s.speech with hdrWords := [] }) hr _))

theorem range_sampleWord (w : Word) (s : State) (h : s.InRange) : (sampleWord w s).InRange := by
  unfold sampleWord
  try dsimp only
  (repeat' split) <;> repeat' first
    | with_reducible exact h
    | with_reducible apply range_onSpeech
    | (intro hr; exact hr)

theorem range_afterSample (s : State) (h : s.InRange) : (afterSample s).InRange := by
  unfold afterSample
  try dsimp only
  (repeat' split) <;> repeat' first
    | with_reducible exact h
    | with_reducible apply range_trailingPause
    | with_reducible apply range_onSpeech
    | (intro hr; exact hr)

theorem range_writePhrase (s : State) (h : s.InRange) (hl : s.audio.buffer.length < Config.bufferDepth) :
    (writePhrase s).InRange := by
  unfold writePhrase
  split
  · exact range_afterSample _ (range_onSpeech (range_writeSample _ _ _ h hl) _ (fun hr => hr))
  · exact range_afterSample _ (range_onSpeech (range_writeSample _ _ _ h hl) _ (fun hr => hr))
  · exact h

theorem range_writePause (s : State) (h : s.InRange) (hl : s.audio.buffer.length < Config.bufferDepth) :
    (writePause s).InRange := by
  unfold writePause
  split
  · exact h
  · have h1 := range_onSpeech (range_writeSample 0 0 _ h hl) (fun c => { c with gapLeft := c.gapLeft - 1 }) (fun hr => hr)
    dsimp only
    split
    · exact range_finishGap _ h1
    · exact h1

theorem range_writeBuffer (s : State) (h : s.InRange) : (writeBuffer s).InRange := by
  unfold writeBuffer
  split
  · exact h
  · rename_i hl
    have hl : s.audio.buffer.length < Config.bufferDepth := Nat.lt_of_not_le hl
    split
    · exact range_writePhrase _ h hl
    · exact range_writePhrase _ h hl
    · exact range_writePause _ h hl
    all_goals exact h

theorem range_requestHandoff (s : State) (h : s.InRange) : (requestHandoff s).InRange := by
  refine range_onSpeech h _ (fun hr => ?_)
  split
  · exact ⟨hr.1, hr.2.1, nextHandoff_le _, nextHandoff_le _, hr.2.2.2.2⟩
  · exact hr

theorem range_markReached (s : State) (h : s.InRange) : (markReached s).InRange := by
  unfold markReached
  try dsimp only
  (repeat' split) <;> repeat' first
    | with_reducible exact h
    | with_reducible apply range_completeHead
    | with_reducible apply range_requestHandoff
    | with_reducible apply range_onSpeech
    | (intro hr; exact hr)

theorem range_handoffDone (s : State) (h : s.InRange) : (handoffDone s).InRange := by
  unfold handoffDone
  try dsimp only
  (repeat' split) <;> repeat' first
    | with_reducible exact h
    | with_reducible apply range_cancel
    | with_reducible apply range_trailingPause
    | with_reducible apply range_onSpeech
    | (intro hr; exact hr)

theorem range_handoffLapse (s : State) (h : s.InRange) : (handoffLapse s).InRange := by
  refine range_trailingPause _ (range_cancel _ _ (range_onSpeech (range_dropDone _ h) _ (fun hr => ?_)))
  exact Speech.count_inRange (c := { (dropDone s).speech with
    record := { (dropDone s).speech.record with state := .cancelled }
    recWrites := (dropDone s).speech.recWrites ++
      [RecWrite.state (dropDone s).speech.record.seq .cancelled (dropDone s).speech.record.part] }) hr _ _

theorem range_nudgeComposer (s : State) (h : s.InRange) : (nudgeComposer s).InRange := by
  unfold nudgeComposer
  try dsimp only
  (repeat' split) <;> repeat' first
    | with_reducible exact h
    | with_reducible apply range_onSpeech
    | (intro hr; exact hr)

theorem range_doneWord (w : Word) (s : State) (h : s.InRange) : (doneWord w s).InRange := by
  unfold doneWord
  try dsimp only
  (repeat' split) <;> repeat' first
    | with_reducible exact h
    | with_reducible apply range_handoffDone
    | with_reducible apply range_onSpeech
    | (intro hr; exact hr)

theorem range_recWritten (r : RecWrite) (s : State) (h : s.InRange) : (recWritten r s).InRange := by
  unfold recWritten
  try dsimp only
  (repeat' split) <;> repeat' first
    | with_reducible exact h
    | exact SpeechSettings.handoffWait_le h.speech.2.2.2.2
    | with_reducible apply range_arm
    | with_reducible apply range_setEvent
    | (intro hr; exact hr)

theorem range_dropRestart (s : State) (h : s.InRange) : (dropRestart s).InRange := by
  unfold dropRestart
  try dsimp only
  (repeat' split) <;> repeat' first
    | with_reducible exact h
    | with_reducible apply range_cancel
    | (intro hr; exact hr)

theorem range_hushAsserted (s : State) (h : s.InRange) : (hushAsserted s).InRange := by
  unfold hushAsserted
  split
  · exact h
  · rename_i u us hq
    have h1 : (cancelHandoff (discardReads s)).InRange := range_cancelHandoff _ (range_discardReads _ h)
    have hqq : (cancelHandoff (discardReads s)).speech.queue = u :: us := by
      rw [← hq]; unfold cancelHandoff; split <;> rfl
    have hlen : (us.filter (!·.loose)).length ≤ us.length := List.length_filter_le ..
    have key : ∀ (f : Speech → Speech) (q : List Utterance) (r : Replay) (n : Nat),
        (∀ c : Speech, (f c).queue = c.queue ∧ (f c).seq = c.seq ∧ (f c).handoffSeq = c.handoffSeq
          ∧ (f c).record = c.record ∧ (f c).settings = c.settings) →
        q.length ≤ us.length + 1 →
        ((cancelHandoff (discardReads s)).onSpeech fun c => ((f c).holdQueue q r).count .echoDropped n).InRange := by
      intro f q r n hf hql
      refine range_onSpeech h1 _ (fun hr => Speech.count_inRange (Speech.holdQueue_inRange ?_ _ ?_ _) _ _)
      · exact Speech.queue_inRange hr (Nat.le_of_eq (congrArg List.length (hf _).1)) (hf _).2.1 (hf _).2.2.1
          (congrArg HandoffRecord.seq (hf _).2.2.2.1) (hf _).2.2.2.2
      · rw [(hf _).1, hqq]; simpa using hql
    have hclear : ∀ c : Speech, c.clearPlan.queue = c.queue ∧ c.clearPlan.seq = c.seq ∧ c.clearPlan.handoffSeq = c.handoffSeq
        ∧ c.clearPlan.record = c.record ∧ c.clearPlan.settings = c.settings :=
      fun c => ⟨rfl, rfl, rfl, rfl, rfl⟩
    have hif : ∀ c : Speech, (if c.planned then c.clearPhrase else c.clearPlan).queue = c.queue ∧
        (if c.planned then c.clearPhrase else c.clearPlan).seq = c.seq ∧
        (if c.planned then c.clearPhrase else c.clearPlan).handoffSeq = c.handoffSeq ∧
        (if c.planned then c.clearPhrase else c.clearPlan).record = c.record ∧
        (if c.planned then c.clearPhrase else c.clearPlan).settings = c.settings := by
      intro c; split <;> exact ⟨rfl, rfl, rfl, rfl, rfl⟩
    dsimp only
    split
    · exact range_dropRestart _ (key _ _ _ _ hclear (by omega))
    · split
      · exact range_dropRestart _ (key _ _ _ _ hclear (by simp; omega))
      · split
        · exact key _ _ _ _ hif (by simp; omega)
        · exact range_utteranceDone _ _ (key _ _ _ _ hclear (by omega))

theorem range_hushReleased (s : State) (h : s.InRange) : (hushReleased s).InRange := by
  unfold hushReleased
  try dsimp only
  (repeat' split) <;> repeat' first
    | with_reducible exact h
    | exact Nat.le_refl Config.restartMs
    | with_reducible apply range_arm
    | (intro hr; exact hr)

theorem range_restartExpired (s : State) (h : s.InRange) : (restartExpired s).InRange := by
  unfold restartExpired
  try dsimp only
  (repeat' split) <;> repeat' first
    | with_reducible exact h
    | with_reducible apply range_beginPhrase
    | with_reducible apply range_makePlan
    | with_reducible apply range_startHead
    | (intro hr; exact hr)

theorem range_hushChanged (before : Bool) (s : State) (h : s.InRange) : (hushChanged before s).InRange := by
  unfold hushChanged
  try dsimp only
  (repeat' split) <;> repeat' first
    | with_reducible exact h
    | with_reducible apply range_setEvent
    | with_reducible apply range_touchMirror
    | with_reducible apply range_hushRamp
    | with_reducible apply range_hushAsserted
    | with_reducible apply range_hushReleased
    | (intro hr; exact hr)

theorem range_setSoftHush (on : Bool) (s : State) (h : s.InRange) : (setSoftHush on s).InRange := by
  unfold setSoftHush
  try dsimp only
  (repeat' split) <;> repeat' first
    | with_reducible exact h
    | with_reducible apply range_hushChanged
    | with_reducible apply range_onAudio
    | (intro hr; exact hr)

theorem range_sampleHush (active : Bool) (s : State) (h : s.InRange) : (sampleHush active s).InRange := by
  unfold sampleHush
  try dsimp only
  (repeat' split) <;> repeat' first
    | with_reducible exact h
    | with_reducible apply range_hushChanged
    | with_reducible apply range_onAudio
    | (intro hr; exact hr)

theorem range_park (s : State) (h : s.InRange) : (park s).InRange := by
  unfold park
  try dsimp only
  (repeat' split) <;> repeat' first
    | with_reducible exact h
    | with_reducible apply range_walkerReport
    | with_reducible apply range_onWalker
    | (intro hr; exact hr)

theorem range_linkRead (v : Word) (s : State) (h : s.InRange) : (linkRead v s).InRange := by
  have hs := range_onWalker h Walker.stop (fun hr => by exact ⟨hr.1, trivial⟩)
  unfold linkRead
  split
  · exact hs
  · split
    · exact range_park _ h
    · split
      · exact range_onWalker h _ (fun hr => hr)
      · exact range_stopLesson _ _ hs

theorem range_stateRead (v : Word) (s : State) (h : s.InRange) : (stateRead v s).InRange := by
  have hs := range_onWalker h Walker.stop (fun hr => by exact ⟨hr.1, trivial⟩)
  unfold stateRead
  split
  · exact hs
  · split
    · exact range_onWalker h _ (fun hr => hr)
    · exact range_park _ h

theorem range_mergeStaged (s : State) (h : s.InRange) : (mergeStaged s).InRange := by
  unfold mergeStaged
  have h1 : ∀ m : Context × Bool, m.1.inRange →
      (s.onWalker fun w => { w with staged := m.1 }.retireAs .applied .noDetail m.2).InRange :=
    fun m hm => range_onWalker h _ (fun hr => ⟨hm, hr.2⟩)
  have h2 := h1 _ (mergeContext_inRange h.walker.1 s.audio.directory (wordsBytes s.walker.body))
  dsimp only
  split
  · exact h2
  · exact range_touchMirror _ h2

theorem range_checkCopied (s : State) (h : s.InRange) : (checkCopied s).InRange := by
  unfold checkCopied
  split
  · exact range_onWalker h _ (fun hr => hr)
  · exact range_mergeStaged _ h
  · rename_i img hi
    exact range_walkerReport _ (range_onWalker h _ (fun hr => ⟨hr.1, checkCard_ready hi⟩))

theorem range_copyMore (s : State) (h : s.InRange) : (copyMore s).InRange := by
  unfold copyMore
  try dsimp only
  (repeat' split) <;> repeat' first
    | with_reducible exact h
    | with_reducible apply range_checkCopied
    | (intro hr; exact hr)

theorem range_takenDone (s : State) (h : s.InRange) : (takenDone s).InRange := by
  unfold takenDone
  have h1 := range_advanceTaken _ (range_onWalker h (fun w =>
    { w with state := .copy, cursor := w.card.ref.toNat + 4, slotHeld := true, body := [], image := .empty })
    (fun hr => by exact ⟨hr.1, trivial⟩))
  dsimp only
  split
  · exact range_onWalker h1 _ (fun hr => hr)
  · exact range_copyMore _ h1

theorem range_bodyRead (v : Word) (s : State) (h : s.InRange) : (bodyRead v s).InRange := by
  unfold bodyRead
  try dsimp only
  (repeat' split) <;> repeat' first
    | with_reducible exact h
    | with_reducible apply range_copyMore
    | with_reducible apply range_onWalker
    | (intro hr; exact hr)

theorem range_retireDone (s : State) (h : s.InRange) : (retireDone s).InRange := by
  have key : ∀ t : State, t.InRange → (t.onWalker fun w =>
      if w.aborting then w.stop
      else { w with state := .seekLink, slotHeld := false, image := .empty, body := [] }).InRange := by
    intro t ht
    refine range_onWalker ht _ (fun hr => ?_)
    split <;> exact ⟨hr.1, trivial⟩
  unfold retireDone
  dsimp only
  apply key
  split
  · exact range_setEvent _ _ (range_advanceRejected _ (range_advanceRetired _ h))
  · exact range_advanceRetired _ h

theorem range_nudgeWalker (s : State) (h : s.InRange) : (nudgeWalker s).InRange := by
  refine range_onWalker h _ (fun hr => ?_)
  repeat' first | exact hr | split

theorem range_walkerStart (s : State) (h : s.InRange) : (walkerStart s).InRange := by
  unfold walkerStart
  try dsimp only
  (repeat' split) <;> repeat' first
    | with_reducible exact h
    | with_reducible apply range_onWalker
    | (intro hr; exact hr)

theorem range_takeIssued (a : Access) (s : State) (h : s.InRange) : (takeIssued a s).InRange := by
  unfold takeIssued
  try dsimp only
  (repeat' split) <;> repeat' first
    | with_reducible exact h
    | with_reducible apply range_onSpeech
    | (intro hr; exact hr)

theorem range_issueFor (r : Requester) (s : State) (h : s.InRange) : (issueFor r s).InRange := by
  unfold issueFor
  try dsimp only
  (repeat' split) <;> repeat' first
    | with_reducible exact h
    | with_reducible apply range_takeIssued
    | with_reducible apply range_onPort
    | (intro hr; exact hr)

theorem range_issueAll (s : State) (h : s.InRange) : (issueAll s).InRange := by
  unfold issueAll
  try dsimp only
  (repeat' split) <;> repeat' first
    | with_reducible exact h
    | with_reducible apply range_discardAll
    | with_reducible apply range_issueFor
    | (intro hr; exact hr)

theorem range_settle (s : State) (h : s.InRange) : (settle s).InRange := by
  unfold settle
  try dsimp only
  (repeat' split) <;> repeat' first
    | with_reducible exact h
    | with_reducible apply range_retime
    | with_reducible apply range_lcAdvance
    | with_reducible apply range_issueAll
    | (intro hr; exact hr)

theorem range_grantEffect (a : Access) (s : State) (h : s.InRange) : (grantEffect a s).InRange := by
  unfold grantEffect
  split <;> repeat' first
    | with_reducible exact h
    | with_reducible apply range_onLc
    | with_reducible apply range_onEngine
    | with_reducible apply range_onScanner
    | with_reducible apply range_onSpeech
    | (intro hr; exact hr)

theorem range_grantTo (r : Requester) (q : Request) (s : State) (h : s.InRange) : (grantTo r q s).InRange := by
  unfold grantTo
  try dsimp only
  (repeat' split) <;> repeat' first
    | with_reducible exact h
    | with_reducible apply range_grantEffect
    | with_reducible apply range_onPort
    | (intro hr; exact hr)

theorem range_grant (s : State) (h : s.InRange) : (grant s).InRange := by
  unfold grant
  try dsimp only
  (repeat' split) <;> repeat' first
    | with_reducible exact h
    | with_reducible apply range_grantTo
    | (intro hr; exact hr)

theorem range_popChain (s : State) (h : s.InRange) : (popChain s).InRange := by
  unfold popChain
  try dsimp only
  (repeat' split) <;> repeat' first
    | with_reducible exact h
    | with_reducible apply range_onLc
    | (intro hr; exact hr)

theorem range_lcWritten (chain : Bool) (s : State) (h : s.InRange) : (lcWritten chain s).InRange := by
  unfold lcWritten
  try dsimp only
  (repeat' split) <;> repeat' first
    | with_reducible exact h
    | with_reducible apply range_lcAfter
    | with_reducible apply range_popChain
    | (intro hr; exact hr)

theorem range_handOver (s : State) (h : s.InRange) : (handOver s).InRange := by
  unfold handOver
  split
  · exact h
  · split
    · rename_i cur hcur
      have hi := h.lc.2.2.2.1 cur hcur
      split
      · rename_i img himg
        rw [himg] at hi
        exact range_handOverWord _ _ _ _ h hi
      · exact range_handOverSay _ _ _ h
      · exact h
      · exact h
    · exact h

theorem range_startingWrites (s : State) (h : s.InRange) : (startingWrites s).InRange := by
  unfold startingWrites
  try dsimp only
  (repeat' split) <;> repeat' first
    | with_reducible exact h
    | with_reducible apply range_onLc
    | with_reducible apply range_onScanner
    | with_reducible apply range_onSpeech
    | (intro hr; exact hr)

theorem range_setupWord (k : Nat) (v : Word) (s : State) (h : s.InRange) : (setupWord k v s).InRange := by
  have h1 := range_onLc h (fun l => { l with setup := l.setup ++ [v] }) (fun hr => hr)
  unfold setupWord
  dsimp only
  split
  · exact range_onLc h1 _ (fun hr => hr)
  · split
    · exact range_onPort (range_onAudio (range_onScanner h1 _
        (fun hr => ⟨hr.1, clamp_ge .., clamp_le (by decide) _, hr.2.2.2⟩)) _
        (fun hr => ⟨hr.1, hr.2.1, clamp_ge .., clamp_le (by decide) _, hr.2.2.2.2⟩)) _
        (fun hr => ⟨hr.1, clamp_le (by decide) _, clamp_le (by decide) _⟩)
    · split
      · exact range_onScanner h1 _ (fun hr => ⟨hr.1, hr.2.1, hr.2.2.1, hr.2.2.2.1, setupKeyMap_length _, hr.2.2.2.2.2⟩)
      · split
        · exact range_startingWrites _ (range_onAudio h1 _ (fun hr => hr))
        · exact h1

theorem range_setupReturned (b : BusAccess) (v : Word) (s : State) (h : s.InRange) : (setupReturned b v s).InRange := by
  unfold setupReturned
  try dsimp only
  (repeat' split) <;> repeat' first
    | with_reducible exact h
    | with_reducible apply range_popChain
    | with_reducible apply range_setupWord
    | (intro hr; exact hr)

theorem range_setupChecked (s : State) (h : s.InRange) : (setupChecked s).InRange := by
  unfold setupChecked
  try dsimp only
  (repeat' split) <;> repeat' first
    | with_reducible exact h
    | with_reducible apply range_setEvent
    | with_reducible apply range_touchMirror
    | with_reducible apply range_choose
    | with_reducible apply range_enterFaulted
    | with_reducible apply range_walkerStart
    | with_reducible apply range_onLc
    | (intro hr; exact hr)

theorem range_accessFailed (a : Access) (s : State) (h : s.InRange) : (accessFailed a s).InRange := by
  unfold accessFailed
  split
  · exact range_popChain _ h
  · exact range_onScanner h _ (fun hr => Scanner.passLost_inRange hr)
  · exact range_onScanner h _ (fun hr => Scanner.passLost_inRange hr)
  · exact range_onScanner h _ (fun hr => Scanner.passLost_inRange hr)
  · exact h

theorem range_busFailed (b : BusAccess) (s : State) (h : s.InRange) : (busFailed b s).InRange := by
  unfold busFailed
  try dsimp only
  (repeat' split) <;> repeat' first
    | with_reducible exact h
    | with_reducible apply range_setEvent
    | with_reducible apply range_busFault
    | with_reducible apply range_accessFailed
    | with_reducible apply range_onPort
    | (intro hr; exact hr)

theorem range_pauseAccepted (s : State) (h : s.InRange) : (pauseAccepted s).InRange := by
  unfold pauseAccepted
  try dsimp only
  (repeat' split) <;> repeat' first
    | with_reducible exact h
    | with_reducible apply range_touchMirror
    | with_reducible apply range_flushSpeech
    | with_reducible apply range_suspend
    | with_reducible apply range_onLc
    | (intro hr; exact hr)

theorem range_resumeAccepted (s : State) (h : s.InRange) : (resumeAccepted s).InRange := by
  unfold resumeAccepted
  try dsimp only
  (repeat' split) <;> repeat' first
    | with_reducible exact h
    | with_reducible apply range_touchMirror
    | with_reducible apply range_choose
    | with_reducible apply range_resumeEngine
    | with_reducible apply range_onLc
    | (intro hr; exact hr)

theorem range_abortStart (s : State) (h : s.InRange) : (abortStart s).InRange := by
  unfold abortStart
  dsimp only
  exact range_onLc (range_onSpeech (range_onScanner h _
    (fun hr => by exact Scanner.startAborted_inRange (Scanner.flushAll_inRange hr) _)) _ (fun hr => hr)) _ (fun hr => hr)

theorem range_abortOver (s : State) (h : s.InRange) : (abortOver s).InRange := by
  unfold abortOver
  try dsimp only
  (repeat' split) <;> repeat' first
    | with_reducible exact h
    | with_reducible apply range_touchMirror
    | with_reducible apply range_onLc
    | (intro hr; exact hr)

theorem range_retireWritten (a : Access) (s : State) (h : s.InRange) : (retireWritten a s).InRange := by
  unfold retireWritten
  try dsimp only
  (repeat' split) <;> repeat' first
    | with_reducible exact h
    | with_reducible apply range_retireDone
    | with_reducible apply range_onWalker
    | (intro hr; exact hr)

theorem range_scannerWritten (a : Access) (s : State) (h : s.InRange) : (scannerWritten a s).InRange := by
  unfold scannerWritten
  try dsimp only
  (repeat' split) <;> repeat' first
    | with_reducible exact h
    | with_reducible apply range_onScanner
    | (intro hr; exact hr)

theorem range_recordWritten (a : Access) (s : State) (h : s.InRange) : (recordWritten a s).InRange := by
  unfold recordWritten
  try dsimp only
  (repeat' split) <;> repeat' first
    | with_reducible exact h
    | with_reducible apply range_recWritten
    | with_reducible apply range_onSpeech
    | (intro hr; exact hr)

theorem range_composerWritten (a : Access) (s : State) (h : s.InRange) : (composerWritten a s).InRange := by
  unfold composerWritten
  try dsimp only
  (repeat' split) <;> repeat' first
    | with_reducible exact h
    | with_reducible apply range_onSpeech
    | (intro hr; exact hr)

/-- A step on an empty queue keeps the ranges (R121). -/
theorem range_idle (s : State) (h : s.InRange) : (idle s).InRange :=
  range_onUnit h _ fun hu => AlignUnit.advance_inRange hu

end Sys2Proof.Machine
end

