-- ==== Sys2Proof/Laws/Spoken.lean ====
section
/-! SUPPORT. What speaking leaves alone: one lemma for each operation of the Speech Composer that another block calls. -/
set_option linter.unusedSimpArgs false

namespace Sys2Proof.Machine

/-- A state without what the Speech Composer's queue and plans change: its own registers, the buffer and its end mark, two of
the timers, the accesses waiting, whether data in flight is wanted, and the engine's waiting words and speech flags (R111). -/
def State.spoken (s : State) : State :=
  { s with
    port := { s.port with waiting := {}, busy := s.port.busy.map fun b => { b with discard := false } }
    clock := { s.clock with handoffWait := {}, restart := {} }
    engine := { s.engine with words := [], unspoken := false, forcedCut := false }
    speech := {}
    audio := { s.audio with buffer := [], mark := none, markReport := false } }

@[simp] theorem spoken_onSpeech (f : Speech → Speech) (s : State) : (s.onSpeech f).spoken = s.spoken := rfl

theorem spoken_cancel (n : TimerName) (s : State) (h : n = .handoffWait ∨ n = .restart) : (cancel n s).spoken = s.spoken := by
  rcases h with rfl | rfl <;> rfl

@[simp] theorem spoken_cancelHandoffWait (s : State) : (cancel .handoffWait s).spoken = s.spoken := rfl
@[simp] theorem spoken_cancelRestart (s : State) : (cancel .restart s).spoken = s.spoken := rfl

@[simp] theorem spoken_cutRamp (s : State) : (cutRamp s).spoken = s.spoken := rfl
@[simp] theorem spoken_placeMark (s : State) : (placeMark s).spoken = s.spoken := rfl
@[simp] theorem spoken_markWords (ks : List Nat) (s : State) : (markWords ks s).spoken = s.spoken := rfl

theorem spoken_discard (r : Requester) (s : State) : (s.onPort (·.discard r)).spoken = s.spoken := by
  simp only [State.spoken, State.onPort, Port.discard]
  cases s.port.busy with
  | none => rfl
  | some b => by_cases h : b.requester = r <;> simp [h]

@[simp] theorem spoken_discardReads (s : State) : (discardReads s).spoken = s.spoken := by
  have h : discardReads s = s.onPort (·.discard .sample) ∨
      discardReads s = (s.onPort (·.discard .header)).onPort (·.discard .sample) := by
    unfold discardReads
    by_cases h : (s.port.outstanding .header).any Access.isHeaderRead <;> simp [State.onPort, h]
  rcases h with h | h <;> rw [h]
  · exact spoken_discard .sample s
  · exact (spoken_discard .sample _).trans (spoken_discard .header s)

@[simp] theorem spoken_dropDone (s : State) : (dropDone s).spoken = s.spoken := by
  have h : dropDone s = s.onSpeech (fun c => { c with doneWanted := false, donePending := false }) ∨
      dropDone s = (s.onPort (·.discard .header)).onSpeech fun c => { c with doneWanted := false, donePending := false } := by
    unfold dropDone
    by_cases h : s.port.outstanding .header = some .doneRead <;> simp [State.onPort, h]
  rcases h with h | h <;> rw [h]
  · rfl
  · exact (rfl : _ = (s.onPort (·.discard .header)).spoken).trans (spoken_discard .header s)

@[simp] theorem spoken_unspoken (s : State) : (s.onEngine fun e => { e with unspoken := true }).spoken = s.spoken := rfl
@[simp] theorem spoken_forced (s : State) : (s.onEngine fun e => { e with forcedCut := true }).spoken = s.spoken := rfl

@[simp] theorem spoken_reportUnspoken (s : State) : (reportUnspoken s).spoken = s.spoken := by
  unfold reportUnspoken
  try dsimp only
  (repeat' split) <;> (try simp)

@[simp] theorem spoken_reportForced (n : Nat) (s : State) : (reportForced n s).spoken = s.spoken := by
  unfold reportForced
  try dsimp only
  (repeat' split) <;> (try simp)

@[simp] theorem spoken_addWords (ws : List (List UnitRef)) (gapMs : Nat) (s : State) : (addWords ws gapMs s).spoken = s.spoken := by
  unfold addWords
  try dsimp only
  (repeat' split) <;> (try simp)

@[simp] theorem spoken_planMore (ps : List Part) (s : State) : (planMore ps s).spoken = s.spoken := by
  induction ps generalizing s with
  | nil => rfl
  | cons p ps ih => unfold planMore; split <;> simp [ih]

@[simp] theorem spoken_absorbBad (s : State) : (absorbBad s).spoken = s.spoken := by
  unfold absorbBad
  try dsimp only
  (repeat' split) <;> (try simp)

@[simp] theorem spoken_enterFill (s : State) : (enterFill s).spoken = s.spoken := by
  unfold enterFill
  try dsimp only
  (repeat' split) <;> (try simp)

@[simp] theorem spoken_gatherMore (s : State) : (gatherMore s).spoken = s.spoken := by
  unfold gatherMore
  try dsimp only
  (repeat' split) <;> (try simp)

@[simp] theorem spoken_beginPhrase (n : Nat) (replayed : Bool) (s : State) : (beginPhrase n replayed s).spoken = s.spoken := by
  unfold beginPhrase
  try dsimp only
  (repeat' split) <;> (try simp)

@[simp] theorem spoken_awaitEnd (s : State) : (awaitEnd s).spoken = s.spoken := by
  unfold awaitEnd
  try dsimp only
  (repeat' split) <;> (try simp)

@[simp] theorem spoken_beginPlan (s : State) : (beginPlan s).spoken = s.spoken := by
  unfold beginPlan
  try dsimp only
  (repeat' split) <;> (try simp)

@[simp] theorem spoken_makePlan (s : State) : (makePlan s).spoken = s.spoken := by
  unfold makePlan
  try dsimp only
  (repeat' split) <;> (try simp)

@[simp] theorem spoken_startHead (s : State) : (startHead s).spoken = s.spoken := by
  unfold startHead
  try dsimp only
  (repeat' split) <;> (try simp)

@[simp] theorem spoken_tryStart (s : State) : (tryStart s).spoken = s.spoken := by
  unfold tryStart
  try dsimp only
  (repeat' split) <;> (try simp)

@[simp] theorem spoken_finishGap (s : State) : (finishGap s).spoken = s.spoken := by
  unfold finishGap
  try dsimp only
  (repeat' split) <;> (try simp)

@[simp] theorem spoken_enterGap (kind : GapKind) (n : Nat) (s : State) : (enterGap kind n s).spoken = s.spoken := by
  unfold enterGap
  try dsimp only
  (repeat' split) <;> (try simp)

@[simp] theorem spoken_trailingPause (s : State) : (trailingPause s).spoken = s.spoken := by
  unfold trailingPause
  try dsimp only
  (repeat' split) <;> (try simp)

@[simp] theorem spoken_place (k : UtteranceKind) (ps : List Part) (s : State) : (place k ps s).1.spoken = s.spoken := by
  unfold place
  try dsimp only
  (repeat' split) <;> simp

@[simp] theorem spoken_placeLoose (kind : UtteranceKind) (parts : List Part) (s : State) : (placeLoose kind parts s).spoken = s.spoken := by
  unfold placeLoose
  try dsimp only
  (repeat' split) <;> (try simp)

@[simp] theorem spoken_cancelHandoff (s : State) : (cancelHandoff s).spoken = s.spoken := by
  unfold cancelHandoff
  try dsimp only
  (repeat' split) <;> (try simp)

@[simp] theorem spoken_cutPlaying (s : State) : (cutPlaying s).spoken = s.spoken := by
  unfold cutPlaying
  try dsimp only
  (repeat' split) <;> (try simp)

@[simp] theorem spoken_cutHeld (s : State) : (cutHeld s).spoken = s.spoken := by
  unfold cutHeld
  try dsimp only
  (repeat' split) <;> (try simp)

@[simp] theorem spoken_cutQueued (seq : Nat) (s : State) : (cutQueued seq s).spoken = s.spoken := by
  unfold cutQueued
  try dsimp only
  (repeat' split) <;> (try simp)

@[simp] theorem spoken_cut (seq : Nat) (s : State) : (cut seq s).spoken = s.spoken := by
  unfold cut
  try dsimp only
  (repeat' split) <;> (try simp)

@[simp] theorem spoken_flushSpeech (s : State) : (flushSpeech s).spoken = s.spoken := by
  unfold flushSpeech
  try dsimp only
  (repeat' split) <;> (try simp)

@[simp] theorem spoken_endSpeech (s : State) : (endSpeech s).spoken = s.spoken := by simp [endSpeech]

end Sys2Proof.Machine
end

