-- ==== Sys2Proof/Tests/Slice0.lean ====
section
/-! SUPPORT. Tests: the refusal of ill-formed terms, one or two single steps for each command with values from the spec, and
for each statement with hypotheses a state and operands that meet them. -/
namespace Sys2Proof.Tests

open Sys2Proof.Machine

/-! ### Helpers -/

/-- The state after a command. -/
def after (c : Instr) (s : State) : State := match exec c s with | .next t => t | _ => State.reset

/-- The reason of a refusal. -/
def refusal (c : Instr) (s : State) : Option Refusal := match exec c s with | .refused r => some r | _ => none

/-- A state in a lesson state. -/
def inLesson (l : LessonState) : State := { State.reset with lc := { lesson := l } }

/-- An access of a requester in progress on the bus, its data wanted. -/
def onPortOf (r : Requester) (a : Access) : BusAccess :=
  { requester := r, access := a, discard := false, orphan := false, address := 0, write := none }

/-- A state with that access in progress. -/
def busy (r : Requester) (a : Access) (s : State) : State := { s with port := { s.port with busy := some (onPortOf r a) } }

theorem busy_onBus (r : Requester) (a : Access) (s : State) : (busy r a s).onBus r a := ⟨_, rfl, rfl, rfl, rfl, rfl⟩

/-- A card with the word "cat". -/
def cat : WordImage := { alternates := [[3, 1, 20]], pron := 0x1000 }

/-- That card as the current presentation, at a stage of its try. -/
def trying (e : Engine) : State :=
  { State.reset with
    lc := { lesson := .presenting, current := some { card := { ref := 0x100, kind := 1 }, image := .word cat, review := false } }
    engine := { e with card := 0x100, image := cat, tryNo := 1, live := [1] } }

/-- The same with a key at the head of the FIFO. -/
def keyed (meaning : Nat) (e : Engine) : State :=
  { trying e with scanner := { fifo := [{ pos := 0, meaning := meaning, time := 0 }] } }

/-- A timer whose expiry has been delivered. -/
def delivered : Timer := { expired := true }

/-- A composer in a state, with an utterance playing. -/
def speaking (c : Speech) : State :=
  { State.reset with speech := { c with queue := [{ seq := 1, kind := .prompt, parts := [], bank := 0, playing := true }] } }

/-- A lesson in which a card is being given back. -/
def chained (l : Lc) (it : LcItem) : State :=
  busy .lesson (.lc it.access true) { State.reset with lc := { l with chain := it :: l.chain } }

/-! ### Ill-formed terms (DESIGN CHOICE, log 4) -/

theorem test_wf_unknown_codes :
    ([0, 8, 0x101] : List Word).all (fun c => (Instr.unknownCommand c).wf) = true
      ∧ ([1, 2, 3, 4, 5, 6, 7] : List Word).all (fun c => !(Instr.unknownCommand c).wf) = true := by decide
theorem test_wf_ignored_offsets :
    ([0x0C, 0x18, 0x02] : List Word).all (fun o => (Instr.ignoredRegisterWrite o 0).wf) = true
      ∧ ([0x00, 0x04, 0x08, 0x10, 0x14] : List Word).all (fun o => !(Instr.ignoredRegisterWrite o 0).wf) = true := by decide
theorem test_ill_formed_refused :
    refusal (.unknownCommand 1) State.reset = some .listedCommandCode
      ∧ refusal (.ignoredRegisterWrite 0x14 0) State.reset = some .takenRegisterOffset := by decide
/-- No row of the table gives bits, so no word spells a command. -/
theorem test_no_word_spells : decodeTableWord 32 0 = none ∧ State.reset.withFetchWord 32 0 = State.reset := by decide

/-! ### The host's writes and the resets (chapters 1 and 3) -/

theorem test_power_on_reset :
    (after .powerOnReset { State.reset with port := { window := 0x10000, enable := 0xFF } }).port = {} := by decide
theorem test_reset_keeps_window :
    (after .reset { inLesson .waiting with port := { window := 0x10000, enable := 3, events := 7 } }).port
      = { window := 0x10000, enable := 3 } := by decide
theorem test_window_low_half_dropped :
    (after (.windowWrite 0x12345678) State.reset).port.window = 0x12340000 := by decide
theorem test_window_refused_in_lesson :
    (after (.windowWrite 0x12345678) (inLesson .waiting)).port = { refused := true } := by decide
theorem test_run_starts : (after .run State.reset).lc.lesson = .starting := by decide
theorem test_run_reads_setup_first :
    (after .run (inLesson .ended)).port.waiting.lesson = some { access := .lc (.setup 0) true } := by decide
theorem test_pause_suspends :
    (after .pause (trying { state := .listening })).engine.state = .suspended
      ∧ (after .pause (trying { state := .listening })).engine.left = .listening := by decide
theorem test_resume_listening_prompts :
    (after .resume { trying { state := .suspended, left := .listening } with
      lc := { lesson := .paused, paused := some (.presenting, true) } }).engine.state = .prompting := by decide
theorem test_abort_edges :
    (after .abort State.reset).port.refused = true ∧ (after .abort (inLesson .ended)).lc.lesson = .stopped := by decide
/-- END in HOLD stays there through the closing (R35), and RESTART is IDLE though nothing is held (R86). -/
theorem test_abort_end_held :
    (after .abort { inLesson .waiting with walker := { state := .hold, slotHeld := true, image := .endCard } }).walker.state
      = .hold
    ∧ (after .abort { inLesson .waiting with clock := { restart := { state := .running, left := 9 } } }).clock.restart.state
      = .idle := by decide
theorem test_hush_set : (after .hushSet State.reset).port.events = 0x80 := by decide
theorem test_hush_clear_while_clear : (after .hushClear State.reset).port.events = 0 := by decide
/-- The first ramp entry of section 11's lid example: trunc(800 * 15 / 16) = 750. -/
theorem test_hush_ramp :
    (after .hushSet { State.reset with audio := { buffer := [800] } }).audio.buffer = [750] := by decide
/-- Section 1.7: COMMAND 1 RUN to 7 RESET. -/
theorem test_command_codes : ([1, 2, 3, 4, 5, 6, 7, 8] : List Word).map (registerWrite 0x04)
    = [.run, .pause, .resume, .abort, .hushSet, .hushClear, .reset, .unknownCommand 8] := by decide
theorem test_unknown_command :
    (after (.unknownCommand 8) State.reset).port = { refused := true } := by decide
theorem test_nudge_wakes :
    (after (.nudge 0) { inLesson .waiting with walker := { state := .parked } }).walker.state = .seekLink := by decide
theorem test_events_write :
    (after (.eventsWrite 0xFFFFFF05) { State.reset with port := { events := 0x07 } }).port.events = 0x02 := by decide
theorem test_enable_write_raises_line :
    (after (.eventEnableWrite 0x102) { State.reset with port := { events := 0x02 } }).interruptLine = true := by decide
theorem test_ignored_write : after (.ignoredRegisterWrite 0x0C 0xFFFFFFFF) State.reset = State.reset := by decide

/-! ### Ticks (chapters 4, 5, 10 and 11) -/

set_option maxRecDepth 4000 in
theorem test_clock_wraps :
    (after (.millisecondStep 0 false) { State.reset with clock := { time := 0xFFFFFFFF } }).clock.time = 0 := by decide
set_option maxRecDepth 4000 in
theorem test_fifth_sample_accepts :
    (after (.millisecondStep 1 false) { State.reset with
      scanner := { keys := .goingDown 4 100 :: List.replicate 63 .up } }).scanner.keys.head? = some .down := by decide
theorem test_reprompt_expiry :
    (after .repromptExpiry { trying { state := .listening } with clock := { reprompt := delivered } }).engine.reprompts = 1 := by
  decide
theorem test_settle_expiry :
    (after .settleExpiry { trying { state := .settling, trail := [3, 1, 20] } with
      clock := { settle := delivered } }).engine.judged.score = 100 := by decide
theorem test_handoff_lapse :
    (after .handoffWaitExpiry { speaking { state := .handoff, record := { seq := 3, state := .requested } } with
      clock := { handoffWait := delivered } }).speech.record = { seq := 3, state := .cancelled } := by decide
theorem test_restart_expiry :
    (after .restartExpiry { speaking { state := .hushed, planned := true, plan := [{ items := [] }], replay := .phrase 0 } with
      clock := { restart := delivered } }).speech.state ≠ .hushed := by decide
theorem test_slot_sends_head :
    (after .sampleSlot { State.reset with audio := { buffer := [-2, 7] } }).audio.codec = 0xFFFE := by decide
theorem test_slot_underrun :
    (after .sampleSlot { State.reset with speech := { state := .play } }).audio.underruns = 1 := by decide
theorem test_end_mark_completes :
    (after .endMarkReport { speaking { state := .gap, waitMark := true } with
      audio := { markReport := true } }).speech.queue = [] := by decide

/-! ### The bus and the walker (chapters 1 and 2) -/

theorem test_grant_address :
    (after .busGrant { State.reset with
      port := { window := 0xFFFF0000, waiting := { walker := some { access := .link 0x20004 } } } }).port.busy.map (·.address)
      = some 0x00010004 := by decide
theorem test_bus_error_faults :
    (after .busError (busy .walker (.link 0) (inLesson .waiting))).port.events = 0x04 := by decide
theorem test_bus_error_fault_code :
    readRegister (after .busError (busy .walker (.link 0) (inLesson .waiting))) 0x0C = 0x406 := by decide
/-- DEB 0 clamps to 2, HUSHFILT 0xFF to 15, COALESCE 9 to 7 (R3). -/
theorem test_setup_clamps :
    (after (.setupReadReturn 0x0009FF00) (chained { lesson := .starting, chain := [{ access := .setup 2 }] }
      { access := .setup 1 })).scanner.deb = 2
      ∧ (after (.setupReadReturn 0x0009FF00) (chained { lesson := .starting, chain := [{ access := .setup 2 }] }
      { access := .setup 1 })).port.coalesce = 7 := by decide
theorem test_setup_check_no_bank :
    (after .setupCheck { State.reset with lc := { lesson := .starting, started := true } }).lc.faultCode = .noBank := by decide
theorem test_link_named :
    (after (.linkReadReturn 0x3FF00) (busy .walker (.link 0) (inLesson .presenting))).walker.state = .seekState := by decide
theorem test_link_out_of_range :
    (after (.linkReadReturn 0x3FF04) (busy .walker (.link 0) (inLesson .presenting))).lc.closing
      = .copies (.linkRange 0 0x3FF04) := by decide
theorem test_state_posted :
    (after (.stateReadReturn 0xABCD0301) (busy .walker (.cardState 0x100) { inLesson .presenting with
      walker := { state := .seekState, card := { ref := 0x100 } } })).walker.card
      = { ref := 0x100, kind := 3, tag := 0xABCD } := by decide
theorem test_taken_end_card_held :
    (after .takenWriteComplete (busy .walker .takenWrite { inLesson .presenting with
      walker := { state := .claim, card := { ref := 0x100, kind := 4 } } })).walker.image = .endCard := by decide
theorem test_say_card_ready :
    (after (.bodyReadReturn 0x3FFA0) (busy .walker (.body 0x110) { inLesson .presenting with
      walker := { state := .copy, card := { ref := 0x100, kind := 3 } } })).walker.image = .say 0x3FFA0 := by decide
theorem test_say_card_out_of_range :
    (after (.bodyReadReturn 0x3FFA1) (busy .walker (.body 0x110) { inLesson .presenting with
      walker := { state := .copy, card := { ref := 0x100, kind := 3 } } })).walker.detail = .refRange := by decide
theorem test_rejected_card_announced :
    (after .retireWriteComplete (busy .walker .walkerRetired { inLesson .presenting with
      walker := { state := .retire, outcome := .rejected, outcomeDone := true } })).port.events = 0x08 := by decide

/-! ### Lesson control (chapters 3 and 8) -/

theorem test_hand_over :
    (after .activeWriteComplete (chained
      { lesson := .presenting, chain := [{ access := .mirror }]
        current := some { card := { ref := 0x100, kind := 1 }, image := .word cat, review := false } }
      { access := .header { ref := 0x100, kind := 1 } .active, after := .active })).engine.state = .prompting := by decide
theorem test_end_header_judged :
    (after .lcWriteComplete (chained
      { lesson := .presenting, chain := [{ access := .copy .judged }]
        ending := some { card := {}, image := .word cat, final := some { tryNo := 1, verdict := .correct, score := 100, words := [] }
                         outcome := .done, inserted := false, writing := true } }
      { access := .header {} .retired, after := .endHeader })).lc.judged = 1 := by decide
/-- COALESCE 2, first end: the counter falls to 1 and REPORT is not set (section 1.4). -/
theorem test_coalescing :
    (coalesceEnd { State.reset with port := { coalesceSetting := 2, coalesce := 2 } }).port
      = { coalesceSetting := 2, coalesce := 1, ended := 1 } := by decide
theorem test_presentation_end_inserts :
    (after .presentationEnd (trying { ending := true, verdict := .wrong })).lc.queue.map (·.due) = [3] := by decide

/-! ### Keys, judging and the display (chapters 4, 6, 7 and 9) -/

theorem test_letter_taken : (after .keyTake (keyed 3 { state := .listening })).engine.trail = [3] := by decide
theorem test_barge_hold_keeps :
    (after .keyTake { keyed 3 { state := .feedback } with lc := { lesson := .presenting } }).scanner.fifo.length = 1 := by decide
/-- Worked case 3 of chapter 7: "kt" against "cat". -/
theorem test_worked_case_3 : (judge [11, 20] [[3, 1, 20]])
    = (.wrong, { matched := 1, distance := 2, subs := 1, omissions := 1, marks := [.missing, .sub, .ok] }) := by decide
set_option maxRecDepth 4000 in
/-- Worked case 2 of chapter 7: "freind" against "friend" is one swap, CLOSE, 83. -/
theorem test_worked_case_2 :
    (after .alignmentCompletion { trying { state := .judging } with
      unit := { state := .filling, trail := [6, 18, 5, 9, 14, 4], alternates := [[6, 18, 9, 5, 14, 4]] }
      engine := { state := .judging, image := { alternates := [[6, 18, 9, 5, 14, 4]] }, tryNo := 1 } }).engine.judged
      = { matched := 1, distance := 1, score := 83, swaps := 1, marks := [.ok, .ok, .swap, .swap, .ok, .ok] } := by decide
/-- The unit fills its table, enters TRACING and has its result (R121). -/
theorem test_unit_phases :
    ((AlignUnit.request [3] [[3]]).advance.state = .filling ∧ (AlignUnit.request [3] [[3]]).advance.distances = [0])
      ∧ (AlignUnit.request [3] [[3]]).advance.advance.state = .tracing
      ∧ (AlignUnit.request [3] [[3]]).advance.advance.advance.traced = some (judge [3] [[3]]) := by decide
theorem test_record_write_frees :
    (after .recordWriteComplete (busy .engine (.record 0x100 0) (trying { state := .listening, words := [2, 1] }))).port.waiting.engine
      = some { access := .record 0x100 1 } := by decide
theorem test_line_generation :
    (after .lineWriteComplete (busy .line (.lineCell 15) { State.reset with
      line := { card := some 0x100, gen := 0xFFFFFFFF, phase := .cell 15 } })).line.gen = 0 := by decide
theorem test_line_close :
    (after .lineClose { State.reset with line := { card := some 0x100, closing := true } }).line.card = none := by decide
theorem test_pass_read_loses :
    (after (.passReadReturn 0x0100) (busy .scanner .passRead { State.reset with
      scanner := { passOp := some ({ pos := 1, meaning := 33, time := 0 }, .read) } })).scanner.passDropped = 1 := by decide
theorem test_pass_write_announced :
    (after .passWriteComplete (busy .scanner .passSlot { State.reset with
      scanner := { passOp := some ({ pos := 1, meaning := 33, time := 0 }, .slot) } })).port.events = 0x40 := by decide
theorem test_scanner_write :
    (after .scannerWriteComplete (busy .scanner (.ksCopy .dropped) { State.reset with
      scanner := { starting := [.dropped] } })).scanner.starting = [] := by decide

/-! ### Speech (chapters 10 and 11) -/

/-- The bytes 0x05, 0x7D and the end byte 0x7F are one word of one unit (R171, R172). -/
theorem test_string_decodes :
    (after (.stringReadReturn 0x007F7D05) (busy .header (.string 0x1000)
      (speaking { state := .gather, strRef := some 0x1000 }))).speech.plan = [{ items := [.unit { bank := 0, num := 5 }] }] := by
  decide
theorem test_unit_header :
    (after (.unitHeaderReadReturn 0x00000010) (busy .header (.unitWord 0x204)
      { speaking { state := .gather, planned := true, plan := [{ items := [.unit { bank := 0, num := 0 }] }], hdrWords := [0x4000] }
        with audio := { directory := [{ present := true, count := 1, table := 0x200 }] } })).speech.phrasePlan
      = [.sound 0x4000 16] := by decide
theorem test_sample_word :
    (after (.sampleReadReturn 0x44332211) (busy .sample (.sample 0x4000)
      (speaking { state := .play, segs := [.sound 0x4001 2] }))).speech.codes = [0x22, 0x33] := by decide
/-- Section 11.1: codes 0x00, 0x0F, 0x10, 0x1F, 0x20, 0x7F and 0xFF. -/
theorem test_linear_values :
    ([0x00, 0x0F, 0x10, 0x1F, 0x20, 0x7F, 0xFF] : List Byte).map linear = [0, 15, 16, 46, 48, 3952, -3952] := by decide
theorem test_buffer_write :
    (after .bufferWrite { speaking { state := .play, segs := [.sound 0 3], codes := [0x7F] } with
      audio := { volume := 31 } }).audio.buffer = [3952] := by decide
theorem test_handoff_announced :
    (after .handoffRecordWriteComplete (busy .header (.recWrite (.state 3 .requested .word))
      (speaking { state := .handoff, record := { seq := 3, state := .requested } }))).port.events = 0x20 := by decide
theorem test_handoff_done :
    (after (.handoffDoneReadReturn 3) (busy .header .doneRead
      (speaking { state := .handoff, record := { seq := 3, state := .requested } }))).speech.record = { seq := 3 } := by decide
/-- A done read of a request that is over is disregarded (R184). -/
theorem test_stale_done_read :
    (after (.handoffDoneReadReturn 4) { speaking { state := .handoff, record := { seq := 4, state := .requested } } with
      port := { busy := some { onPortOf .header .doneRead with discard := true } } }).speech.record.state = .requested := by
  decide
theorem test_composer_write :
    (after .composerWriteComplete (busy .header .composerMirror
      { State.reset with speech := { starting := [.mirror] } })).speech.starting = [] := by decide
/-- The gaps of chapter 10's example: 120 ms and 400 ms at RATE 16. -/
theorem test_gap_samples :
    gapSamples (SpeechSettings.of Context.defaults) 120 = 1920 ∧ gapSamples (SpeechSettings.of Context.defaults) 400 = 6400 := by
  decide

/-! ### States that meet the statements' hypotheses -/

theorem calm_of (s : State) (hb : s.port.writeBlock = false) (he : s.endUnderWay = false) (hc : s.lc.closing = .clear) :
    s.calm := ⟨hb, .inr ⟨he, hc⟩⟩

theorem steady_of (s : State) (hb : s.port.writeBlock = false) (he : s.endUnderWay = false) (hc : s.lc.closing = .clear) :
    s.steady := ⟨hb, .inl (.inr ⟨he, hc⟩)⟩

/-- An access in progress whose data is not wanted. -/
def unwanted (r : Requester) (a : Access) : BusAccess := { onPortOf r a with discard := true }

/-- An access in progress that a soft reset has cut loose. -/
def loose (r : Requester) (a : Access) : BusAccess := { onPortOf r a with orphan := true }

/-- A state with a job of two alternates in the unit. -/
def inUnit (u : AlignUnit) : State :=
  { State.reset with unit := { u with trail := [3], alternates := [[3], [1]] } }

theorem witness_StepRunsFront :
    State.reset.pending = [] ∧ State.reset.unit.state = .idle
      ∧ ((inUnit { state := .filling }).pending = [] ∧ (inUnit { state := .filling }).unit.state = .filling
        ∧ (inUnit { state := .filling }).unit.alternates.drop (inUnit { state := .filling }).unit.tables.length = [3] :: [[1]])
      ∧ (inUnit { state := .filling, tables := [[], []] }).unit.alternates.length
        ≤ (inUnit { state := .filling, tables := [[], []] }).unit.tables.length
      ∧ ∃ s : State, s.pending = [] ∧ s.unit.state = .tracing ∧ s.unit.inRange :=
  ⟨rfl, rfl, ⟨rfl, rfl, rfl⟩, by decide,
    { State.reset with unit := { state := .tracing, trail := [3], alternates := [[3]]
                                 tables := [distanceTable [3] [3]], distances := [distance [3] [3]] } },
    rfl, rfl, by decide, rfl, rfl, fun _ => rfl, (by intro r h; cases h), (by intro h; cases h)⟩

theorem witness_WellFormedCommandsRun : Instr.run.wf = true ∧ (Instr.unknownCommand 8).wf = true
    ∧ 1 ≤ (1 : Word).toNat ∧ (7 : Word).toNat ≤ 7 ∧ (0x14 : Word) ∈ [0x00#32, 0x04#32, 0x08#32, 0x10#32, 0x14#32]
    ∧ exec .run State.reset = .next (after .run State.reset) := ⟨rfl, rfl, by decide, by decide, by decide, rfl⟩

theorem witness_RegisterAccess :
    (inLesson .faulted).lc.lesson ∈ [LessonState.stopped, .ended, .faulted]
      ∧ (inLesson .paused).lc.lesson ∉ [LessonState.stopped, .ended, .faulted]
      ∧ (0 : Word).toNat = 0 ∧ 7 < (8 : Word).toNat ∧ (0x0C : Word) ∉ [0x00#32, 0x04#32, 0x08#32, 0x10#32, 0x14#32] := by decide

theorem witness_EventsWriteClears : 7 < 8 ∧ Event.hush.mask.getLsbD 7 = true ∧ (0x80 : Word).getLsbD 7 = true := by decide

theorem witness_EventEnableWrite : exec .powerOnReset State.reset = .next (after .powerOnReset State.reset)
    ∧ Instr.abort ∈ [Instr.reset, .run, .abort] ∧ exec .abort State.reset = .next (after .abort State.reset) :=
  ⟨rfl, by decide, rfl⟩

theorem witness_RegisterAccess_reads : (0x04 : Word) ∉ [0x00#32, 0x0C#32, 0x10#32, 0x14#32] := by decide

theorem witness_CommandDecisions : (0 : Word).toNat = 0 ∧ 7 < (8 : Word).toNat
    ∧ (inLesson .waiting).lc.lesson ∈ [LessonState.waiting, .presenting] ∧ (inLesson .paused).lc.lesson = .paused := by decide

theorem witness_RunStartsLesson :
    State.reset.lc.lesson ∈ [LessonState.stopped, .ended, .faulted] ∧ State.reset.port.busy = none
      ∧ (busy .header (.string 0x1000) State.reset).port.busy = some (onPortOf .header (.string 0x1000))
      ∧ (busy .header (.string 0x1000) State.reset).port.waiting.header = none
      ∧ (onPortOf .header (.string 0x1000)).access.isString = true
      ∧ (onPortOf .header (.unitWord 0)).access.isUnitWord = true
      ∧ (onPortOf .walker (.link 0)).requester ∉ [Requester.header, .sample]
      ∧ (onPortOf .sample (.sample 0)).requester = .sample := by decide

/-- A prompt playing in a hand-off that has been requested. -/
def prompting : State :=
  { trying { state := .prompting, awaitPrompt := some 1 } with
    speech := { (speaking { state := .handoff, record := { seq := 3, state := .requested } }).speech with waitMark := false } }

theorem witness_PauseSuspends :
    prompting.lc.lesson ∈ [LessonState.waiting, .presenting] ∧ prompting.lc.closing = .clear ∧ prompting.steady
      ∧ prompting.speech.queue ≠ [] ∧ prompting.speech.record.state = .requested
      ∧ (∃ u us, prompting.speech.queue = u :: us ∧ u.playing = true) ∧ prompting.speech.state ≠ .hushed
      ∧ (inLesson .waiting).speech.queue = [] ∧ (inLesson .waiting).steady :=
  ⟨by decide, rfl, steady_of _ rfl rfl rfl, by decide, rfl, ⟨_, _, rfl, rfl⟩, by decide, rfl, steady_of _ rfl rfl rfl⟩

/-- A presentation paused out of a state. -/
def pausedOut (left : AttemptState) : State :=
  { trying { state := .suspended, left := left } with lc := { lesson := .paused, paused := some (.presenting, true) } }

/-- A lesson paused while it was waiting. -/
def pausedWaiting : State := { State.reset with lc := { lesson := .paused, paused := some (.waiting, false) } }

theorem witness_ResumeGoesOn :
    ((pausedOut .judging).lc.lesson = .paused ∧ (pausedOut .judging).lc.closing = .clear ∧ (pausedOut .judging).steady
      ∧ (pausedOut .judging).lc.paused = some (.presenting, true) ∧ (pausedOut .judging).engine.state = .suspended
      ∧ (pausedOut .judging).engine.left ∉ [AttemptState.idle, .suspended]
      ∧ (pausedOut .judging).engine.keptReprompt = false ∧ (pausedOut .judging).engine.keptSettle = false
      ∧ (pausedOut .judging).engine.awaitPrompt = none ∧ (pausedOut .judging).engine.feedbackDue = false)
    ∧ pausedWaiting.lc.lesson = .paused ∧ pausedWaiting.lc.closing = .clear ∧ pausedWaiting.steady
      ∧ pausedWaiting.lc.paused = some (.waiting, false) ∧ pausedWaiting.endUnderWay = false
      ∧ pausedWaiting.lc.current = none ∧ pausedWaiting.lc.queue = [] ∧ pausedWaiting.walker.slotHeld = false
      ∧ LessonState.waiting ∈ [LessonState.waiting, .presenting] :=
  ⟨⟨rfl, rfl, steady_of _ rfl rfl rfl, rfl, rfl, by decide, rfl, rfl, rfl, rfl⟩,
    rfl, rfl, steady_of _ rfl rfl rfl, rfl, rfl, rfl, rfl, rfl, by decide⟩

/-- A PAUSED lesson whose engine left a state with expiries kept. -/
def pausedKeeping (left : AttemptState) (keptReprompt keptSettle : Bool) (e : Engine) : State :=
  { pausedOut left with
    engine := { e with state := .suspended, left, card := 0x100, image := cat, live := [1], keptReprompt, keptSettle } }

theorem witness_ResumeGoesOn_kept :
    (∀ k m, (pausedKeeping .settling k m { trail := [3, 1, 20] }).lc.lesson = .paused
        ∧ (pausedKeeping .settling k m { trail := [3, 1, 20] }).lc.closing = .clear
        ∧ (pausedKeeping .settling k m { trail := [3, 1, 20] }).steady
        ∧ (pausedKeeping .settling k m { trail := [3, 1, 20] }).lc.paused = some (.presenting, true)
        ∧ (pausedKeeping .settling k m { trail := [3, 1, 20] }).engine.state = .suspended
        ∧ (pausedKeeping .settling k m { trail := [3, 1, 20] }).engine.awaitPrompt = none
        ∧ 1 ∈ (pausedKeeping .settling k m { trail := [3, 1, 20] }).engine.live
        ∧ (pausedKeeping .settling k m { trail := [3, 1, 20] }).engine.altLength 1
          = (pausedKeeping .settling k m { trail := [3, 1, 20] }).engine.trail.length)
      ∧ ((pausedKeeping .listening true false { reprompts := 1 }).steady
        ∧ (pausedKeeping .listening true false { reprompts := 1 }).engine.left = .listening
        ∧ (pausedKeeping .listening true false { reprompts := 1 }).engine.keptReprompt = true
        ∧ (pausedKeeping .listening true false { reprompts := 1 }).engine.reprompts
          < (pausedKeeping .listening true false { reprompts := 1 }).lc.active.reprompts)
      ∧ ((pausedKeeping .listening true false { reprompts := 2, trail := [3] }).lc.active.reprompts
          ≤ (pausedKeeping .listening true false { reprompts := 2, trail := [3] }).engine.reprompts
        ∧ (pausedKeeping .listening true false { reprompts := 2, trail := [3] }).lc.active.mode = .whole
        ∧ (pausedKeeping .listening true false { reprompts := 2, trail := [3] }).engine.trail ≠ [])
      ∧ (pausedKeeping .listening true false { reprompts := 2 }).engine.trail = [] :=
  ⟨fun _ _ => ⟨rfl, rfl, steady_of _ rfl rfl rfl, rfl, rfl, rfl, .head _, rfl⟩, ⟨steady_of _ rfl rfl rfl, rfl, rfl, by decide⟩,
    ⟨by decide, rfl, by decide⟩, rfl⟩

/-- A presentation whose final feedback is over. -/
def finished (e : Engine) : State := trying { e with ending := true, final := true }

/-- The same, paused. -/
def pausedEnding : State := { finished {} with lc := { (finished {}).lc with lesson := .paused, paused := some (.presenting, false) } }

theorem witness_ResumeGoesOn_end : pausedEnding.lc.lesson = .paused ∧ pausedEnding.lc.closing = .clear ∧ pausedEnding.endUnderWay = true
    ∧ pausedEnding.lc.paused = some (.presenting, false)
    ∧ ({ pausedEnding with lc := { pausedEnding.lc with chain := [{ access := .mirror }] } } : State).steady ∧ pausedEnding.steady :=
  ⟨rfl, rfl, rfl, rfl, ⟨rfl, .inl (.inl (by decide))⟩, rfl, .inr ⟨rfl, rfl, fun _ h => nomatch h⟩⟩

/-- An end decided whose line has still to close. -/
theorem witness_PauseSuspends_ending : (∀ e : EndInfo,
      ({ finished {} with
        lc := { (finished {}).lc with ending := some e }, line := { card := some 0x100, closing := true } } : State).steady)
    ∧ (finished {}).steady ∧ (finished {}).lc.lesson = .presenting ∧ (finished {}).lc.closing = .clear :=
  ⟨fun _ => ⟨rfl, .inr ⟨rfl, rfl, fun _ _ => .inr rfl⟩⟩, ⟨rfl, .inr ⟨rfl, rfl, fun _ h => nomatch h⟩⟩, rfl, rfl⟩

theorem witness_ResumeGoesOn_placed :
    (∀ left ∈ [AttemptState.prompting, .listening, .settling, .feedback, .speaking, .judging],
      (pausedOut left).engine.left = left ∧ (pausedOut left).speech.queue.length < 4 ∧ (pausedOut left).speech.feedbackRoom)
    ∧ (pausedKeeping .judging false false { feedbackDue := true }).engine.feedbackDue = true :=
  ⟨fun _ _ => ⟨rfl, Nat.zero_lt_succ _, Nat.zero_lt_succ _⟩, rfl⟩

theorem witness_AbortBeginsClosing :
    prompting.lc.lesson ∈ [LessonState.waiting, .presenting, .paused] ∧ prompting.lc.closing = .clear
      ∧ prompting.endUnderWay = false ∧ prompting.speech.queue ≠ []
      ∧ (finished {}).lc.lesson ∈ [LessonState.waiting, .presenting, .paused] ∧ (finished {}).lc.closing = .clear
      ∧ (finished {}).endUnderWay = true ∧ (finished {}).port.writeBlock = false := by decide

/-- An END card ready in the slot. -/
def endReady (l : Lc) : State := { State.reset with lc := l, walker := { state := .hold, slotHeld := true, image := .endCard } }

theorem witness_AbortBeginsClosing_hold :
    (endReady { lesson := .paused }).lc.lesson ∈ [LessonState.waiting, .presenting, .paused]
      ∧ (endReady { lesson := .paused }).lc.closing = .clear ∧ (endReady { lesson := .paused }).walker.state = .hold
      ∧ (inLesson .waiting).walker.state ∈ [WalkerState.hold, .parked, .off] ∧ WalkerState.copy ∉ [WalkerState.hold, .parked, .off] := by
  decide

/-- A lesson whose setup has been read. -/
def setUp : State := { State.reset with lc := { lesson := .starting, setup := List.replicate 98 0 } }

theorem witness_AbortAtTheEdges :
    (setUp.lc.lesson = .starting ∧ setUp.lc.closing = .clear ∧ setUp.port.writeBlock = false ∧ setUp.endUnderWay = false
      ∧ setUp.port.outstanding .lesson = none ∧ setUp.lc.setup.length = 98)
    ∧ (inLesson .faulted).lc.lesson ∈ [LessonState.ended, .faulted] ∧ (inLesson .faulted).lc.closing = .clear
      ∧ (inLesson .faulted).endUnderWay = false ∧ (inLesson .faulted).port.writeBlock = false
      ∧ ({ inLesson .faulted with port := { writeBlock := true } } : State).port.writeBlock = true :=
  ⟨⟨rfl, rfl, rfl, rfl, rfl, rfl⟩, by decide, rfl, rfl, rfl, rfl⟩

theorem witness_HushCommands : State.reset.lcQuiet ∧ State.reset.calm ∧ (State.reset.audio.filter.on || false) = State.reset.hush
    ∧ (State.reset.audio.filter.on || true) = true ∧ State.reset.hush = false ∧ State.reset.speech.queue = [] :=
  ⟨.inr ⟨rfl, rfl⟩, calm_of _ rfl rfl rfl, rfl, rfl, rfl, rfl⟩

theorem witness_MillisecondStepCounts : State.reset.audio.filter = .clear ∧ State.reset.calm
    ∧ (({ State.reset with clock := { settle := { state := .running, left := 1 } } } : State).clock.get .settle).left ≤ 1 :=
  ⟨rfl, calm_of _ rfl rfl rfl, by decide⟩

set_option maxRecDepth 4000 in
theorem witness_MillisecondStepCounts_timers :
    (after (.millisecondStep 0 false) (inLesson .paused)).hush = (inLesson .paused).hush
      ∧ (({ inLesson .paused with clock := { restart := { state := .running, left := 2 } } } : State).clock.get .restart).state
        = .running := ⟨by decide, rfl⟩

/-- A scanner with position 0 one sample short of DOWN. -/
def almostDown : State :=
  { inLesson .waiting with
    scanner := { keys := .goingDown 4 100 :: List.replicate 63 .up, keyMap := 3 :: List.replicate 63 0 } }

set_option maxRecDepth 4000 in
theorem witness_ScanPassAndKeys : exec (.millisecondStep 1 false) almostDown = .next (after (.millisecondStep 1 false) almostDown)
    ∧ almostDown.scanner.keys.length = 64 ∧ almostDown.port.writeBlock = false := ⟨rfl, by decide, rfl⟩

/-- Two positions, both one sample short of DOWN, with a third held. -/
def twoAlmostDown : State :=
  { inLesson .waiting with
    scanner := {
      keys := .goingDown 4 100 :: .goingDown 4 101 :: .down :: List.replicate 61 .up
      keyMap := 3 :: 5 :: List.replicate 62 0 } }

set_option maxRecDepth 8000 in
/-- Positions 0 and 1 accepted in one pass with position 2 held: 0 has one other held and is typed, 1 has two and is blocked
(R65, R69). -/
theorem test_two_edges_one_pass :
    (after (.millisecondStep 7 false) twoAlmostDown).scanner.fifo = [{ pos := 0, meaning := 3, time := 100 }]
      ∧ (after (.millisecondStep 7 false) twoAlmostDown).scanner.blocked = 1 := by decide

/-- A try with its REPROMPT expiry delivered. -/
def reprompted (e : Engine) (stale : Bool) : State :=
  { trying e with clock := { reprompt := { expired := true, stale := stale } } }

theorem witness_EngineExpiries :
    State.reset.clock.reprompt.expired = false
      ∧ (reprompted { state := .listening } true).clock.reprompt.stale = true ∧ (reprompted { state := .listening } true).calm
      ∧ ((reprompted { state := .listening, reprompts := 1 } false).clock.reprompt.expired = true
        ∧ (reprompted { state := .listening, reprompts := 1 } false).clock.reprompt.stale = false
        ∧ (reprompted { state := .listening, reprompts := 1 } false).calm
        ∧ (reprompted { state := .listening, reprompts := 1 } false).engine.reprompts
          < (reprompted { state := .listening, reprompts := 1 } false).lc.active.reprompts)
      ∧ ((reprompted { state := .listening, reprompts := 2, trail := [3] } false).lc.active.reprompts
          ≤ (reprompted { state := .listening, reprompts := 2, trail := [3] } false).engine.reprompts
        ∧ (reprompted { state := .listening, reprompts := 2, trail := [3] } false).lc.active.mode = .whole
        ∧ (reprompted { state := .listening, reprompts := 2, trail := [3] } false).engine.trail ≠ [])
      ∧ (reprompted { state := .listening, reprompts := 2 } false).engine.trail = []
      ∧ (reprompted { state := .settling } false).engine.state = .settling :=
  ⟨rfl, rfl, calm_of _ rfl rfl rfl, ⟨rfl, rfl, calm_of _ rfl rfl rfl, by decide⟩, ⟨by decide, rfl, by decide⟩, rfl, rfl⟩

/-- A LIVE try that is complete, with its SETTLE expiry delivered. -/
def settled : State := { trying { state := .settling, trail := [3, 1, 20] } with clock := { settle := { expired := true } } }

theorem witness_EngineExpiries_settle : State.reset.clock.settle.expired = false
    ∧ settled.clock.settle.expired = true ∧ settled.clock.settle.stale = false ∧ settled.calm ∧ settled.engine.state = .settling
    ∧ 1 ∈ settled.engine.live ∧ settled.engine.altLength 1 = settled.engine.trail.length
    ∧ ∀ b ∈ settled.engine.live, settled.engine.altLength b = settled.engine.trail.length → 1 ≤ b :=
  ⟨rfl, rfl, rfl, calm_of _ rfl rfl rfl, rfl, by decide, by decide, by decide⟩

theorem witness_EngineExpiries_others : ∀ st ∈ [AttemptState.suspended, .prompting],
    (reprompted { state := st } false).clock.reprompt.expired = true ∧ (reprompted { state := st } false).clock.reprompt.stale = false
      ∧ (reprompted { state := st } false).calm ∧ (reprompted { state := st } false).engine.state = st
      ∧ ({ settled with engine := { settled.engine with state := st } } : State).clock.settle.expired = true
      ∧ ({ settled with engine := { settled.engine with state := st } } : State).calm
      ∧ ({ settled with engine := { settled.engine with state := st } } : State).clock.settle.stale = false := by
  intro st _
  exact ⟨rfl, rfl, calm_of _ rfl rfl rfl, rfl, rfl, calm_of _ rfl rfl rfl, rfl⟩

/-- A hand-off with its expiry delivered. -/
def lapsing (st : HandoffState) : State :=
  { speaking { state := .handoff, record := { seq := 3, state := st } } with clock := { handoffWait := delivered } }

theorem witness_ComposerExpiries :
    State.reset.calm ∧ State.reset.clock.handoffWait.expired = false
      ∧ (lapsing .requested).calm ∧ (lapsing .requested).clock.handoffWait.expired = true
      ∧ (lapsing .requested).speech.record.state = .requested
      ∧ 0 < gapSamples (lapsing .requested).speech.settings
          (if (lapsing .requested).speech.last then (lapsing .requested).speech.settings.finalGap
            else (lapsing .requested).speech.settings.phraseGap)
      ∧ (lapsing .cancelled).calm ∧ (lapsing .cancelled).clock.handoffWait.expired = true
      ∧ (lapsing .cancelled).speech.record.state ≠ .requested :=
  ⟨calm_of _ rfl rfl rfl, rfl, calm_of _ rfl rfl rfl, rfl, rfl, by decide, calm_of _ rfl rfl rfl, rfl, by decide⟩

theorem witness_ComposerExpiries_noPause :
    ∃ s : State, s.calm ∧ s.clock.handoffWait.expired = true ∧ s.speech.record.state = .requested ∧ s.speech.last = true
      ∧ gapSamples s.speech.settings s.speech.settings.finalGap = 0 ∧ gapSamples s.speech.settings s.speech.settings.phraseGap = 0 :=
  ⟨{ lapsing .requested with
      speech := { (lapsing .requested).speech with last := true, settings := .of { finalGap := 0, phraseGap := 0 } } },
    calm_of _ rfl rfl rfl, rfl, rfl, rfl, by decide, by decide⟩

/-- A composer that holds an utterance, with the RESTART expiry delivered. -/
def held (hush : Bool) : State :=
  { speaking { state := .hushed } with clock := { restart := delivered }, audio := { softHush := hush } }

theorem witness_ComposerExpiries_restart :
    State.reset.clock.restart.expired = false
      ∧ ((held false).clock.restart.expired = true ∧ (held false).speech.state = .hushed
        ∧ (∃ u us, (held false).speech.queue = u :: us) ∧ (held false).hush = false)
      ∧ (held true).clock.restart.expired = true ∧ (held true).hush = true ∧ (held true).calm :=
  ⟨rfl, ⟨rfl, rfl, ⟨_, _, rfl⟩, rfl⟩, rfl, rfl, calm_of _ rfl rfl rfl⟩

theorem witness_SamplesFormedAndSent : State.reset.calm := calm_of _ rfl rfl rfl

/-- A prompt of an engine in PROMPTING that has been spoken to its end mark. -/
def spoken : State :=
  { trying { state := .prompting, awaitPrompt := some 1 } with
    speech := (speaking { state := .gap, waitMark := true }).speech, audio := { markReport := true } }

/-- A composer whose head, spoken to its end mark, an engine awaits or does not. -/
def spokenTo (e : Engine) (more : List Utterance) : State :=
  { trying e with
    lc := { (trying e).lc with current := some { card := { ref := 0x100, kind := 3 }, image := .say 0x400, review := false } }
    speech := { state := .gap, waitMark := true
                queue := { seq := 1, kind := .prompt, parts := [], bank := 0, playing := true } :: more }
    audio := { markReport := true } }

/-- A QUEUED utterance. -/
def waitingHead (k : UtteranceKind) (n : Nat) : Utterance := { seq := n, kind := k, parts := [], bank := 0 }

theorem witness_EndMarkReportActs_others :
    (∀ final ∈ [true, false],
        (spokenTo { state := .feedback, awaitFeedback := some 1, final } []).calm
          ∧ (spokenTo { state := .feedback, awaitFeedback := some 1, final } []).engine.state = .feedback
          ∧ (∃ u, (spokenTo { state := .feedback, awaitFeedback := some 1, final } []).speech.queue = [u]
            ∧ (spokenTo { state := .feedback, awaitFeedback := some 1, final } []).engine.awaitFeedback = some u.seq)
          ∧ (spokenTo { state := .feedback, awaitFeedback := some 1, final } []).lc.ending = none
          ∧ (spokenTo { state := .feedback, awaitFeedback := some 1, final } []).lc.lesson = .presenting
          ∧ (spokenTo { state := .feedback, awaitFeedback := some 1, final } []).engine.tryNo = 1)
      ∧ ((spokenTo { state := .speaking, awaitSay := some 1 } []).calm
        ∧ (spokenTo { state := .speaking, awaitSay := some 1 } []).engine.awaitSay = some 1
        ∧ ∃ cur, (spokenTo { state := .speaking, awaitSay := some 1 } []).lc.current = some cur ∧ ∀ w, cur.image ≠ .word w)
      ∧ (spokenTo { state := .judging } [waitingHead .echo 2]).calm
        ∧ (spokenTo { state := .judging } [waitingHead .echo 2]).hush = false
        ∧ (spokenTo { state := .judging } [waitingHead .echo 2]).engine.state ∈ [AttemptState.idle, .judging, .suspended] :=
  ⟨fun _ _ => ⟨calm_of _ rfl rfl rfl, rfl, ⟨_, rfl, rfl⟩, rfl, rfl, rfl⟩,
    ⟨calm_of _ rfl rfl rfl, rfl, _, rfl, fun w h => nomatch h⟩, calm_of _ rfl rfl rfl, rfl, by decide⟩

/-- A composer waiting for an end mark before a hand-off phrase. -/
def beforeHandoff : State :=
  { State.reset with
    speech := { state := .handoff, waitMark := true, plan := [{ handoff := some (0x100, .word) }] }, audio := { markReport := true } }

theorem witness_EndMarkReportActs :
    State.reset.audio.markReport = false
      ∧ (spoken.audio.markReport = true ∧ spoken.speech.waitMark = true ∧ spoken.speech.state = .gap
        ∧ (∃ u, spoken.speech.queue = [u] ∧ spoken.engine.awaitPrompt = some u.seq) ∧ spoken.engine.state = .prompting
        ∧ spoken.calm)
      ∧ beforeHandoff.audio.markReport = true ∧ beforeHandoff.speech.waitMark = true ∧ beforeHandoff.speech.state = .handoff
      ∧ (beforeHandoff.speech.phraseAt beforeHandoff.speech.phrase).handoff = some (0x100, .word) ∧ beforeHandoff.calm :=
  ⟨rfl, ⟨rfl, rfl, rfl, ⟨_, rfl, rfl⟩, rfl, calm_of _ rfl rfl rfl⟩, rfl, rfl, rfl, rfl, calm_of _ rfl rfl rfl⟩

/-- Two requesters waiting at a free port, the rotation at the last of its requesters. -/
def contended : State :=
  { State.reset with
    port := { rotation := .header, waiting := { walker := some { access := .link 0 }, line := some { access := .lineGen } } } }

/-- A sample read waiting. -/
def sampleWaiting : State := { State.reset with port := { waiting := { sample := some { access := .sample 4 } } } }

theorem witness_GrantFollowsRotation :
    (busy .walker (.link 0) State.reset).port.busy.isSome = true ∧ (∀ r, State.reset.port.waiting.get r = none)
      ∧ (contended.port.busy = none ∧ contended.port.waiting.get .walker = some { access := .link 0 }
        ∧ contended.port.waiting.get .sample = none
        ∧ ([.walker, .lesson, .engine, .line, .scanner, .header] : List Requester)[5]? = some contended.port.rotation
        ∧ ([.walker, .lesson, .engine, .line, .scanner, .header] : List Requester)[(5 + 1) % 6]? = some .walker
        ∧ ∀ k < 1, ∀ r', ([.walker, .lesson, .engine, .line, .scanner, .header] : List Requester)[(5 + k) % 6]? = some r' →
          contended.port.waiting.get r' = none)
      ∧ sampleWaiting.port.waiting.get .sample = some { access := .sample 4 } :=
  ⟨rfl, fun r => by cases r <;> rfl, ⟨rfl, rfl, rfl, rfl, rfl, fun k hk r' h => by
    have : k = 0 := by omega
    subst this
    simp at h
    subst h
    rfl⟩, rfl⟩

theorem witness_BusErrorFaults :
    State.reset.port.busy = none
      ∧ (∃ s : State, s.port.busy = some (loose .walker (.link 0)) ∧ (loose .walker (.link 0)).orphan = true ∧ s.calm)
      ∧ ((busy .walker (.link 0) (inLesson .ended)).port.busy = some (onPortOf .walker (.link 0))
        ∧ (onPortOf .walker (.link 0)).orphan = false
        ∧ (busy .walker (.link 0) (inLesson .ended)).lc.lesson ∉ [LessonState.stopped, .faulted])
      ∧ ((busy .lesson (.lc .mirror true) (inLesson .faulted)).lc.lesson = .faulted
        ∧ (busy .lesson (.lc .mirror true) (inLesson .faulted)).lc.closing = .clear)
      ∧ (busy .lesson (.lc .mirror true) State.reset).lc.lesson = .stopped ∧ (busy .lesson (.lc .mirror true) State.reset).calm
      ∧ (busy .lesson (.lc .mirror true) State.reset).lc.closing = .clear :=
  ⟨rfl, ⟨{ State.reset with port := { busy := some (loose .walker (.link 0)) } }, rfl, rfl, calm_of _ rfl rfl rfl⟩,
    ⟨rfl, rfl, by decide⟩, ⟨rfl, rfl⟩, rfl, calm_of _ rfl rfl rfl, rfl⟩

/-- A setup read in progress, with another behind it. -/
def reading (k : Nat) (c : Closing) : State :=
  chained { lesson := .starting, closing := c, chain := [{ access := .setup (k + 1) }] } { access := .setup k }

theorem witness_SetupWordsTaken :
    (reading 0 .clear).onBus .lesson (.lc (.setup 0) true) ∧ (reading 1 .clear).onBus .lesson (.lc (.setup 1) true)
      ∧ (reading 17 .clear).onBus .lesson (.lc (.setup 17) true) ∧ (reading 96 .clear).onBus .lesson (.lc (.setup 96) true)
      ∧ (reading 97 .clear).onBus .lesson (.lc (.setup 97) true) ∧ (reading 97 .clear).port.writeBlock = false
      ∧ (reading 97 .clear).endUnderWay = false ∧ (reading 97 .clear).lc.closing = .clear
      ∧ (reading 5 .start).onBus .lesson (.lc (.setup 5) true) ∧ (reading 5 .start).lc.closing = .start
      ∧ (reading 5 .start).lc.chain.tail ≠ [] :=
  ⟨busy_onBus .., busy_onBus .., busy_onBus .., busy_onBus .., busy_onBus .., rfl, rfl, rfl, busy_onBus .., rfl, by decide⟩

/-- The setup read already issued at an ABORT in STARTING, nothing behind it. -/
def readingLast (ks : List KsCounter) : State :=
  { chained { lesson := .starting, closing := .start } { access := .setup 5 } with scanner := { starting := ks } }

theorem witness_SetupWordsTaken_last :
    ((readingLast []).onBus .lesson (.lc (.setup 5) true) ∧ (readingLast []).lc.closing = .start ∧ (readingLast []).lc.chain.tail = []
        ∧ (readingLast []).scanner.starting = [] ∧ (readingLast []).speech.starting = [] ∧ (readingLast []).endUnderWay = false
        ∧ (readingLast []).port.writeBlock = false)
      ∧ (readingLast [.dropped]).scanner.starting ≠ [] :=
  ⟨⟨busy_onBus .., rfl, rfl, rfl, rfl, rfl, rfl⟩, by decide⟩

/-- A lesson whose starting writes are complete, with a deck head and bank 0 present or not. -/
def started (present : Bool) (head : Word) : State :=
  { State.reset with
    lc := { lesson := .starting, started := true, deckHead := head }
    audio := { directory := [{ present := present }, {}, {}, {}] } }

theorem witness_SetupCheckOutcome :
    State.reset.lc.lesson ≠ .starting
      ∧ ((started true 0x3FF00).lc.lesson = .starting ∧ (started true 0x3FF00).lc.closing = .clear
        ∧ (started true 0x3FF00).lc.started = true ∧ (started true 0x3FF00).lc.chain = []
        ∧ (started true 0x3FF00).scanner.starting = [] ∧ (started true 0x3FF00).speech.starting = []
        ∧ (started true 0x3FF00).port.writeBlock = false ∧ (started true 0x3FF00).endUnderWay = false
        ∧ (started true 0x3FF00).lc.current = none ∧ (started true 0x3FF00).lc.queue = [])
      ∧ ((started true 0x3FF00).audio.directory.getD 0 {}).present = true
      ∧ ((0x3FF00 : Word).toNat % 4 = 0 ∧ (0x3FF00 : Word).toNat ≤ 0x3FF00)
      ∧ ((started false 0).audio.directory.getD 0 {}).present = false
      ∧ ¬ ((0x3FF04 : Word) = 0 ∨ ((0x3FF04 : Word).toNat % 4 = 0 ∧ (0x3FF04 : Word).toNat ≤ 0x3FF00)) := by decide

/-- A walker reading a link word. -/
def linking (w : Walker) : State := busy .walker (.link 0) { inLesson .presenting with walker := w }

theorem witness_WalkerReadOutcomes :
    ((linking { aborting := true }).onBus .walker (.link 0) ∧ (linking { aborting := true }).walker.aborting = true)
      ∧ ((linking { nudgePending := true }).onBus .walker (.link 0) ∧ (linking { nudgePending := true }).walker.aborting = false
        ∧ (linking { nudgePending := true }).calm ∧ (linking { nudgePending := true }).walker.nudgePending = true)
      ∧ (linking {}).walker.nudgePending = false ∧ (linking {}).lc.lesson ≠ .waiting ∧ (linking {}).endUnderWay = false
      ∧ (0x3FF00 : Word) ≠ 0 ∧ (0x3FF00 : Word).toNat % 4 = 0 ∧ (0x3FF00 : Word).toNat ≤ 0x3FF00
      ∧ (0x3FF04 : Word) ≠ 0 ∧ 0x3FF00 < (0x3FF04 : Word).toNat ∧ (2 : Word).toNat % 4 ≠ 0 :=
  ⟨⟨busy_onBus .., rfl⟩, ⟨busy_onBus .., rfl, calm_of _ rfl rfl rfl, rfl⟩, rfl, by decide, rfl, by decide, by decide, by decide,
    by decide, by decide, by decide⟩

/-- A walker reading a header word while "cat" is the current card. -/
def seeking (ref : Word) (w : Walker) : State :=
  busy .walker (.cardState 0) { trying {} with walker := { w with card := { ref := ref } } }

theorem witness_WalkerReadOutcomes_state :
    ((seeking 0x200 { aborting := true }).onBus .walker (.cardState 0) ∧ (seeking 0x200 { aborting := true }).walker.aborting = true)
      ∧ (seeking 0x200 {}).onBus .walker (.cardState 0) ∧ (seeking 0x200 {}).walker.aborting = false ∧ (seeking 0x200 {}).calm
      ∧ (0x101 : Word).toNat % 256 = 1 ∧ (seeking 0x200 {}).walker.nudgePending = false ∧ (seeking 0x200 {}).lc.queue = []
      ∧ ¬ ((∃ c, (seeking 0x200 {}).lc.current = some c ∧ c.card.ref = 0x200) ∨ ∃ e ∈ (seeking 0x200 {}).lc.queue, e.card.ref = 0x200)
      ∧ (∃ c, (seeking 0x100 {}).lc.current = some c ∧ c.card.ref = 0x100)
      ∧ (seeking 0x100 { nudgePending := true }).walker.nudgePending = true ∧ (0x102 : Word).toNat % 256 ≠ 1 := by
  refine ⟨⟨busy_onBus .., rfl⟩, busy_onBus .., rfl, calm_of _ rfl rfl rfl, by decide, rfl, rfl, ?_, ⟨_, rfl, rfl⟩, rfl, by decide⟩
  rintro (⟨c, h, h'⟩ | ⟨e, h, -⟩)
  · cases h; exact absurd h' (by decide)
  · cases h

/-- A deck walked while the lesson waits, with a card to review. -/
def walking (a : Access) : State :=
  busy .walker a { inLesson .waiting with
    walker := { card := { ref := 0x200 } }
    lc := { lesson := .waiting, queue := [{ card := { ref := 0x100, kind := 1 }, image := cat, due := 3, number := 1 }] } }

theorem witness_WalkerReadOutcomes_waiting :
    ((walking (.link 0)).onBus .walker (.link 0) ∧ (walking (.link 0)).calm ∧ (walking (.link 0)).lc.lesson = .waiting)
      ∧ (walking (.cardState 0x200)).onBus .walker (.cardState 0x200) ∧ (walking (.cardState 0x200)).calm
      ∧ (walking (.cardState 0x200)).walker.aborting = false ∧ (walking (.cardState 0x200)).walker.nudgePending = false :=
  ⟨⟨busy_onBus .., calm_of _ rfl rfl rfl, rfl⟩, busy_onBus .., calm_of _ rfl rfl rfl, rfl, rfl⟩

/-- A walker with its TAKEN write in progress. -/
def claiming (k : Byte) (aborting : Bool) : State :=
  busy .walker .takenWrite { inLesson .presenting with walker := { state := .claim, card := { ref := 0x100, kind := k }, aborting } }

theorem witness_TakenWriteTakesCard :
    (claiming 3 false).onBus .walker .takenWrite ∧ (claiming 3 false).calm ∧ (claiming 3 true).walker.aborting = true
      ∧ (claiming 3 false).walker.aborting = false ∧ (claiming 3 false).walker.card.kind ∈ [1#8, 2#8, 3#8]
      ∧ (claiming 4 false).walker.card.kind = 4 ∧ (claiming 4 false).lc.lesson ≠ .waiting
      ∧ (claiming 5 false).walker.card.kind ∉ [1#8, 2#8, 3#8, 4#8] :=
  ⟨busy_onBus .., calm_of _ rfl rfl rfl, rfl, rfl, by decide, rfl, by decide, by decide⟩

/-- A walker at ABORT, with an access in progress and nothing else held. -/
def abandoning (a : Access) (st : WalkerState) : State :=
  busy .walker a { State.reset with
    lc := { lesson := .presenting, closing := .giveBack .abort }
    walker := { state := st, card := { ref := 0x100, kind := 1 }, aborting := true, slotHeld := true } }

theorem witness_TakenWriteTakesCard_abort :
    ((abandoning .takenWrite .claim).onBus .walker .takenWrite ∧ (abandoning .takenWrite .claim).walker.aborting = true
        ∧ (abandoning .takenWrite .claim).port.writeBlock = false ∧ (abandoning .takenWrite .claim).lc.closing = .giveBack .abort
        ∧ (abandoning .takenWrite .claim).lc.chain = [] ∧ (abandoning .takenWrite .claim).endUnderWay = false
        ∧ (abandoning .takenWrite .claim).lc.current = none ∧ (abandoning .takenWrite .claim).lc.queue = []) :=
  ⟨busy_onBus .., rfl, rfl, rfl, rfl, rfl, rfl, rfl⟩

theorem witness_BodyReadCopies_abort :
    (abandoning (.body 0x110) .copy).onBus .walker (.body 0x110) ∧ (abandoning (.body 0x110) .copy).walker.aborting = true
      ∧ (∃ why, (abandoning (.body 0x110) .copy).lc.closing = .giveBack why)
      ∧ (abandoning (.body 0x110) .copy).walker.slotHeld = true ∧ (abandoning (.body 0x110) .copy).walker.state ≠ .off :=
  ⟨busy_onBus .., rfl, ⟨_, rfl⟩, rfl, by decide⟩

/-- A walker with a body read in progress. -/
def copying (k : Byte) (n : Nat) : State :=
  busy .walker (.body 0x110) { inLesson .presenting with
    walker := { state := .copy, card := { ref := 0x100, kind := k }, body := List.replicate n 0 } }

theorem witness_BodyReadCopies :
    ((copying 1 28).onBus .walker (.body 0x110) ∧ (copying 1 28).calm ∧ (copying 1 28).walker.aborting = false
        ∧ (copying 1 28).walker.body.length + 1 < 30)
      ∧ ((copying 3 0).calm ∧ 1 ≤ (copying 3 0).walker.body.length + 1
        ∧ checkCard (copying 3 0).walker.card.kind (wordsBytes ((copying 3 0).walker.body ++ [0x3FFA0])) = .ready (.say 0x3FFA0)
        ∧ (copying 3 0).lc.lesson ≠ .waiting
        ∧ checkCard (copying 3 0).walker.card.kind (wordsBytes ((copying 3 0).walker.body ++ [0x3FFA1])) = .reject .refRange)
      ∧ ((copying 2 11).calm ∧ 12 ≤ (copying 2 11).walker.body.length + 1
        ∧ checkCard (copying 2 11).walker.card.kind (wordsBytes ((copying 2 11).walker.body ++ [0])) = .merge)
      ∧ ({ (copying 3 0).walker with aborting := true } : Walker).aborting = true :=
  ⟨⟨busy_onBus .., calm_of _ rfl rfl rfl, rfl, by decide⟩, ⟨calm_of _ rfl rfl rfl, by decide, by decide, by decide, by decide⟩,
    ⟨calm_of _ rfl rfl rfl, by decide, by decide⟩, rfl⟩

/-- A walker with a write of RETIRE in progress. -/
def retiring (a : Access) (aborting : Bool) : State :=
  busy .walker a { inLesson .presenting with walker := { state := .retire, slotHeld := true, outcome := .rejected, aborting } }

theorem witness_RetireWritesGiveBack :
    ((retiring .walkerOutcome false).calm ∧ (retiring .walkerOutcome false).onBus .walker .walkerOutcome)
      ∧ ((retiring .walkerRetired false).calm ∧ (retiring .walkerRetired false).onBus .walker .walkerRetired
        ∧ (retiring .walkerRetired false).walker.outcome = .rejected ∧ (retiring .walkerRetired true).walker.aborting = true) :=
  ⟨⟨calm_of _ rfl rfl rfl, busy_onBus ..⟩, calm_of _ rfl rfl rfl, busy_onBus .., rfl, rfl⟩

/-- A start chain at its ACTIVE write. -/
def activating (l : LessonState) (c : Closing) (img : Image) : State :=
  chained { lesson := l, closing := c, chain := [{ access := .mirror }]
            current := some { card := { ref := 0x100, kind := 1 }, image := img, review := false } }
    { access := .header { ref := 0x100, kind := 1 } .active, after := .active }

theorem witness_ActiveWriteHandsOver :
    (activating .presenting .clear (.word cat)).onBus .lesson (.lc (.header { ref := 0x100, kind := 1 } .active) true)
      ∧ (activating .presenting .clear (.word cat)).port.writeBlock = false
      ∧ (activating .presenting .clear (.word cat)).lc.chain.tail ≠ []
      ∧ (activating .presenting .clear (.word cat)).lc.closing = .clear
      ∧ (activating .presenting .clear (.word cat)).lc.lesson ∈ [LessonState.presenting, .paused]
      ∧ (∃ cur, (activating .presenting .clear (.word cat)).lc.current = some cur ∧ cur.image = .word cat)
      ∧ (activating .paused .clear (.word cat)).lc.lesson = .paused
      ∧ (∃ cur, (activating .paused .clear (.say 0x400)).lc.current = some cur ∧ cur.image = .say 0x400)
      ∧ (activating .presenting (.giveBack .abort) (.word cat)).lc.closing ≠ .clear
      ∧ (activating .presenting .clear (.say 0x400)).speech.queue.length < 4 :=
  ⟨busy_onBus .., rfl, by decide, rfl, by decide, ⟨_, rfl, rfl⟩, rfl, ⟨_, rfl, rfl⟩, by decide, by decide⟩

/-- The end of a WORD card whose final try was CORRECT. -/
def endOfCat (outcome : CardOutcome) (inserted : Bool) : EndInfo :=
  { card := { ref := 0x100, kind := 1 }, image := .word cat
    final := some { tryNo := 1, verdict := .correct, score := 100, words := [] }, outcome, inserted, writing := true }

/-- An end chain at write 4. -/
def endingWith (e : EndInfo) : State :=
  chained { lesson := .presenting, chain := [{ access := .copy .judged }], ending := some e }
    { access := .header e.card .retired, after := .endHeader }

theorem witness_LessonWriteCompletes :
    (Access.isLcWrite (.lc .mirror true) = true ∧ (busy .lesson (.lc .mirror false) (inLesson .waiting)).onBus .lesson (.lc .mirror false)
        ∧ (busy .lesson (.lc .mirror false) (inLesson .waiting)).calm
        ∧ (busy .lesson (.lc .mirror false) (inLesson .waiting)).port.writeBlock = false)
      ∧ ((chained { lesson := .waiting } { access := .mirror }).onBus .lesson (.lc .mirror true)
        ∧ (chained { lesson := .waiting } { access := .mirror }).lc.chain = { access := .mirror, after := .nothing } :: []
        ∧ (chained { lesson := .waiting } { access := .mirror }).endUnderWay = false
        ∧ (chained { lesson := .waiting } { access := .mirror }).lc.closing = .clear)
      ∧ (Access.isLcWrite (.lc (.header { ref := 0x100, kind := 1 } .retired) true) = true
        ∧ (endingWith (endOfCat .unqueued false)).onBus .lesson (.lc (.header { ref := 0x100, kind := 1 } .retired) true)
        ∧ (endingWith (endOfCat .unqueued false)).lc.chain
          = { access := .header { ref := 0x100, kind := 1 } .retired, after := .endHeader } :: [{ access := .copy .judged }]
        ∧ (endingWith (endOfCat .unqueued false)).lc.ending = some (endOfCat .unqueued false)
        ∧ (endOfCat .unqueued false).inserted = false ∧ (endOfCat .unqueued false).outcome = .unqueued) :=
  ⟨⟨rfl, busy_onBus .., calm_of _ rfl rfl rfl, rfl⟩, ⟨busy_onBus .., rfl, rfl, rfl⟩, rfl, busy_onBus .., rfl, rfl, rfl, rfl⟩

/-- An end chain at its last access. -/
def lastWrite (l : LessonState) : State :=
  chained { lesson := l, ending := some (endOfCat .done false) } { access := .currentRef 0, after := .endCurrent true }

theorem witness_EndChainCompletes :
    (lastWrite .presenting).onBus .lesson (.lc (.currentRef 0) true)
      ∧ (lastWrite .presenting).lc.chain = [{ access := .currentRef 0, after := .endCurrent true }]
      ∧ (lastWrite .presenting).port.writeBlock = false ∧ (lastWrite .presenting).lc.closing = .clear
      ∧ (lastWrite .presenting).engine.ending = false ∧ (lastWrite .presenting).lc.current = none
      ∧ (lastWrite .presenting).lc.queue = [] ∧ (lastWrite .presenting).walker.slotHeld = false
      ∧ (lastWrite .presenting).lc.lesson ∈ [LessonState.presenting, .paused]
      ∧ (lastWrite .paused).lc.lesson ∈ [LessonState.presenting, .paused] :=
  ⟨busy_onBus .., rfl, rfl, rfl, rfl, rfl, rfl, rfl, by decide, by decide⟩

/-- An end chain at an access, a card inserted and the counter at 2. -/
def insertedAt (it : LcItem) (rest : List LcItem) : State :=
  chained { lesson := .presenting, ending := some (endOfCat .noOutcome true), chain := rest } it

theorem witness_EndChainCompletes_mirror :
    ((insertedAt { access := .currentRef 0, after := .endCurrent false } [{ access := .mirror, after := .endMirror }]).onBus .lesson
          (.lc (.currentRef 0) true)
        ∧ (insertedAt { access := .currentRef 0, after := .endCurrent false } [{ access := .mirror, after := .endMirror }]).lc.chain
          = { access := .currentRef 0, after := .endCurrent false } :: { access := .mirror, after := .endMirror } :: [])
      ∧ (insertedAt { access := .mirror, after := .endMirror } []).onBus .lesson (.lc .mirror true)
      ∧ (insertedAt { access := .mirror, after := .endMirror } []).lc.chain = [{ access := .mirror, after := .endMirror }]
      ∧ (insertedAt { access := .mirror, after := .endMirror } []).engine.ending = false :=
  ⟨⟨busy_onBus .., rfl⟩, busy_onBus .., rfl, rfl⟩

/-- A lesson that waits, with cards to review and a walker. -/
def choosing (dues : List Nat) (w : Walker) : State :=
  { State.reset with
    lc := { lesson := .waiting, queue := dues.map fun d => { card := { ref := 0x100, kind := 1 }, image := cat, due := d, number := 1 } }
    walker := w }

theorem witness_ChoiceOfPresentation :
    ((choosing [0, 3] {}).choiceApplies = true ∧ ∃ e rest, (choosing [0, 3] {}).lc.queue = e :: rest ∧ e.due = 0)
      ∧ ((choosing [3] { state := .hold, slotHeld := true, image := .word cat }).choiceApplies = true
        ∧ (∀ e ∈ (choosing [3] { state := .hold, slotHeld := true, image := .word cat }).lc.queue.head?, e.due ≠ 0)
        ∧ ∃ w, (choosing [3] { state := .hold, slotHeld := true, image := .word cat }).walker.image = .word w)
      ∧ ((choosing [3] { deckWaiting := true }).choiceApplies = true ∧ (choosing [3] { deckWaiting := true }).walker.deckWaiting = true
        ∧ ¬ (choosing [3] { deckWaiting := true }).walker.state = .hold)
      ∧ ((choosing [] { state := .hold, slotHeld := true, image := .endCard }).choiceApplies = true
        ∧ (choosing [] { state := .hold, slotHeld := true, image := .endCard }).lc.queue = []
        ∧ ∀ w, (choosing [] { state := .hold, slotHeld := true, image := .endCard }).walker.image ≠ .word w)
      ∧ (choosing [3] {}).choiceApplies = true ∧ (choosing [3] {}).walker.deckWaiting = false
      ∧ ({ trying {} with lc := { lesson := .presenting } } : State).choiceApplies = true :=
  ⟨⟨rfl, _, _, rfl, rfl⟩, ⟨rfl, by decide, _, rfl⟩, ⟨rfl, rfl, by decide⟩, ⟨rfl, rfl, fun w h => nomatch h⟩, rfl, rfl, rfl⟩

/-- A give-back at its RETIRED write. -/
def giving (cur : Option Current) (q : List ReviewEntry) : State :=
  chained { lesson := .presenting, closing := .giveBack .abort, current := cur, queue := q }
    { access := .header { ref := 0x100, kind := 1 } .retired, after := .gaveBack }

/-- "cat" in the review queue. -/
def catEntry (due : Nat) : ReviewEntry := { card := { ref := 0x100, kind := 1 }, image := cat, due := due, number := 1 }

/-- The last access of a closing. -/
def closingAt (a : LcAccess) (k : LcAfter) (rest : List LcItem) : State :=
  chained { lesson := .presenting, closing := .final, chain := rest } { access := a, after := k }

theorem witness_GiveBackAndClosing :
    (∀ cur ∈ [none, some { card := { ref := 0x100, kind := 1 }, image := Image.word cat, review := false }],
      (giving cur [catEntry 2, catEntry 3]).onBus .lesson (.lc (.header { ref := 0x100, kind := 1 } .retired) true)
        ∧ (giving cur [catEntry 2, catEntry 3]).lc.chain
          = [{ access := .header { ref := 0x100, kind := 1 } .retired, after := .gaveBack }]
        ∧ (giving cur [catEntry 2, catEntry 3]).lc.closing = .giveBack .abort
        ∧ (giving cur [catEntry 2, catEntry 3]).endUnderWay = false ∧ (giving cur [catEntry 2, catEntry 3]).port.writeBlock = false)
      ∧ ((closingAt .mirrorStopped .stopped []).port.writeBlock = false ∧ (closingAt .mirrorStopped .stopped []).endUnderWay = false
        ∧ (closingAt .mirrorStopped .stopped []).onBus .lesson (.lc .mirrorStopped true)
        ∧ (closingAt .mirrorStopped .stopped []).lc.chain = [{ access := .mirrorStopped, after := .stopped }])
      ∧ (closingAt (.faultWord 2 7) .faultWritten [{ access := .mirror }]).onBus .lesson (.lc (.faultWord 2 7) true)
      ∧ (closingAt (.faultWord 2 7) .faultWritten [{ access := .mirror }]).lc.chain
        = { access := .faultWord 2 7, after := .faultWritten } :: [{ access := .mirror }] :=
  ⟨fun _ _ => ⟨busy_onBus .., rfl, rfl, rfl, rfl⟩, ⟨rfl, rfl, busy_onBus .., rfl⟩, busy_onBus .., rfl⟩

/-- A closing into ENDED at an access, a presentation counted since the last report. -/
def endingAt (a : LcAccess) (k : LcAfter) (c : Closing) : State :=
  { chained { lesson := .presenting, closing := c } { access := a, after := k } with
    walker := { state := .hold, card := { ref := 0x100, kind := 4 }, slotHeld := true, image := .endCard } }

theorem witness_GiveBackAndClosing_ended :
    ((endingAt (.header { ref := 0x100, kind := 4 } .retired) .endCardRetired (.giveBack .ended)).onBus .lesson
          (.lc (.header { ref := 0x100, kind := 4 } .retired) true)
        ∧ (endingAt (.header { ref := 0x100, kind := 4 } .retired) .endCardRetired (.giveBack .ended)).lc.closing = .giveBack .ended
        ∧ (endingAt (.header { ref := 0x100, kind := 4 } .retired) .endCardRetired (.giveBack .ended)).lc.current = none
        ∧ (endingAt (.header { ref := 0x100, kind := 4 } .retired) .endCardRetired (.giveBack .ended)).lc.queue = []
        ∧ (endingAt (.header { ref := 0x100, kind := 4 } .retired) .endCardRetired (.giveBack .ended)).endUnderWay = false)
      ∧ (endingAt (.copy .retired) .nothing (.copies .ended)).onBus .lesson (.lc (.copy .retired) true)
      ∧ (endingAt (.copy .retired) .nothing (.copies .ended)).lc.chain = [{ access := .copy .retired }]
      ∧ (endingAt (.copy .retired) .nothing (.copies .ended)).lc.closing = .copies .ended
      ∧ (endingAt (.copy .retired) .nothing (.copies .ended)).lc.pendCopies = []
      ∧ (endingAt (.header {} .retired) .gaveBack (.giveBack .abort)).walker.state = .hold :=
  ⟨⟨busy_onBus .., rfl, rfl, rfl, rfl⟩, busy_onBus .., rfl, rfl, rfl, rfl⟩

theorem witness_GiveBackAndClosing_last :
    ((giving none []).onBus .lesson (.lc (.header { ref := 0x100, kind := 1 } .retired) true)
        ∧ (giving none []).lc.current = none ∧ (giving none []).lc.queue = [] ∧ (giving none []).lc.closing = .giveBack .abort
        ∧ (giving none []).walker.image ≠ .endCard)
      ∧ ((endingAt (.copy .retired) .nothing (.copies .abort)).onBus .lesson (.lc (.copy .retired) true)
        ∧ (endingAt (.copy .retired) .nothing (.copies .abort)).lc.chain = [{ access := .copy .retired }]
        ∧ (endingAt (.copy .retired) .nothing (.copies .abort)).lc.closing = .copies .abort
        ∧ (endingAt (.copy .retired) .nothing (.copies .abort)).lc.pendCopies = [])
      ∧ [LcCounter.taken, .retired, .judged, .rejected, .unqueued, .underruns].find?
          (· ∈ ({ (endingAt (.copy .retired) .nothing (.copies .abort)).lc with pendCopies := [.underruns, .judged] } : Lc).pendCopies)
        = some .judged
      ∧ ((endingAt (.currentRef 0) .enterFaulted (.copies (.linkRange 8 9))).onBus .lesson (.lc (.currentRef 0) true)
        ∧ (endingAt (.currentRef 0) .enterFaulted (.copies (.linkRange 8 9))).lc.chain = [{ access := .currentRef 0, after := .enterFaulted }]
        ∧ (endingAt (.currentRef 0) .enterFaulted (.copies (.linkRange 8 9))).lc.closing = .copies (.linkRange 8 9)
        ∧ (endingAt (.currentRef 0) .enterFaulted (.copies (.linkRange 8 9))).port.writeBlock = false
        ∧ (endingAt (.currentRef 0) .enterFaulted (.copies (.linkRange 8 9))).endUnderWay = false) :=
  ⟨⟨busy_onBus .., rfl, rfl, rfl, by decide⟩, ⟨busy_onBus .., rfl, rfl, rfl⟩, by decide, busy_onBus .., rfl, rfl, rfl, rfl⟩

/-- A record write in progress, others due. -/
def recording (ws : List Nat) : State := busy .engine (.record 0x100 0) (trying { state := .listening, words := ws })

theorem witness_CardWritesInOrder :
    (recording []).onBus .engine (.record 0x100 0) ∧ (recording []).calm ∧ (recording []).port.waiting.engine = none
      ∧ (recording []).engine.words = []
      ∧ 1 ∈ (recording [12, 1]).engine.words ∧ (recording [12, 1]).engine.state ≠ .idle
      ∧ ∀ x ∈ (recording [12, 1]).engine.words, 1 ≤ x :=
  ⟨busy_onBus .., calm_of _ rfl rfl rfl, rfl, rfl, by decide, by decide, by decide⟩

/-- A line write in progress at a phase. -/
def writing (a : Access) (p : LinePhase) : State :=
  busy .line a { trying { state := .listening } with line := { card := some 0x100, phase := p, due := true } }

theorem witness_CardWritesInOrder_line :
    (Access.isLine (.lineCell 0) = true ∧ (writing (.lineCell 0) (.cell 0)).onBus .line (.lineCell 0)
        ∧ (writing (.lineCell 0) (.cell 0)).calm ∧ (writing (.lineCell 0) (.cell 0)).line.phase = .cell 0)
      ∧ ((writing (.lineCell 14) (.cell 14)).line.phase = .cell 14 ∧ (writing (.lineCell 15) (.cell 15)).line.phase = .cell 15)
      ∧ (Access.isLine .lineGen = true ∧ (writing .lineGen .generation).onBus .line .lineGen
        ∧ (writing .lineGen .generation).line.phase ∈ [LinePhase.generation, .generationZero]
        ∧ (writing .lineGen .generation).line.due = true ∧ (writing .lineGen .generation).line.card.isSome = true)
      ∧ (writing .lineGen .idle).line.phase = .idle :=
  ⟨⟨rfl, busy_onBus .., calm_of _ rfl rfl rfl, rfl⟩, ⟨rfl, rfl⟩, ⟨rfl, busy_onBus .., by decide, rfl, rfl⟩, rfl⟩

/-- A line to be closed, and an end that waits for it. -/
def closingLine (e : Option EndInfo) : State :=
  { State.reset with line := { card := some 0x100, closing := true }, lc := { lesson := .presenting, ending := e } }

theorem witness_CardWritesInOrder_close :
    State.reset.line.closing = false
      ∧ ((closingLine none).line.closing = true ∧ (closingLine none).line.phase = .idle ∧ (closingLine none).line.due = false
        ∧ (closingLine none).calm)
      ∧ ∀ ins ∈ [true, false],
        (closingLine (some { endOfCat .unqueued ins with writing := false })).port.writeBlock = false
        ∧ (closingLine (some { endOfCat .unqueued ins with writing := false })).lc.chain = []
        ∧ (closingLine (some { endOfCat .unqueued ins with writing := false })).lc.ending
          = some { endOfCat .unqueued ins with writing := false }
        ∧ (closingLine (some { endOfCat .unqueued ins with writing := false })).port.free .engine = true :=
  ⟨rfl, ⟨rfl, rfl, rfl, calm_of _ rfl rfl rfl⟩, fun _ _ => ⟨rfl, rfl, rfl, rfl⟩⟩

/-- A pass operation with an access in progress. -/
def passing (a : Access) (st : PassStage) : State :=
  busy .scanner a { inLesson .waiting with scanner := { passOp := some ({ pos := 1, meaning := 33, time := 0 }, st) } }

theorem witness_PassSlotProtocol :
    ((passing .passRead .read).calm ∧ (passing .passRead .read).onBus .scanner .passRead
        ∧ (passing .passRead .read).scanner.passOp = some ({ pos := 1, meaning := 33, time := 0 }, .read)
        ∧ (0xFFFF00FF : Word).toNat / 256 % 256 = 0 ∧ (0x100 : Word).toNat / 256 % 256 ≠ 0)
      ∧ ((passing .passTime .time).calm ∧ (passing .passTime .time).onBus .scanner .passTime
        ∧ (passing .passTime .time).scanner.passOp = some ({ pos := 1, meaning := 33, time := 0 }, .time))
      ∧ (passing .passSlot .slot).onBus .scanner .passSlot
      ∧ (passing (.ksCopy .blocked) .read).onBus .scanner (.ksCopy .blocked) :=
  ⟨⟨calm_of _ rfl rfl rfl, busy_onBus .., rfl, by decide, by decide⟩, ⟨calm_of _ rfl rfl rfl, busy_onBus .., rfl⟩, busy_onBus ..,
    busy_onBus ..⟩

/-- A composer reading a string at 0x1000. -/
def spelling (got : List Byte) : State :=
  busy .header (.string 0x1000) (speaking { state := .gather, strRef := some 0x1000, strBytes := got })

/-- A read in progress whose data is not wanted. -/
def unheeded (r : Requester) (a : Access) (s : State) : State := { s with port := { busy := some (unwanted r a) } }

theorem witness_StringReadDecodes :
    ((spelling []).calm ∧ (spelling []).speech.strRef = some 0x1000 ∧ (spelling []).onBus .header (.string 0x1000)
        ∧ (decodeString 0 (wordBytes 0x01010101)).2 = false)
      ∧ ((decodeString 0 (wordBytes 0x7F0101)).2 = true ∧ (spelling []).speech.parts = []
        ∧ (partPhrases 24 1920 (tokenWords (decodeString 0 (wordBytes 0x7F0101)).1)).1 ≠ [])
      ∧ 96 ≤ ((spelling (List.replicate 92 1)).speech.strBytes ++ wordBytes 0x01010101).length
      ∧ ((unheeded .header (.string 0x1000) (spelling [])).calm
        ∧ (unheeded .header (.string 0x1000) (spelling [])).speech.strRef = some 0x1000
        ∧ (unheeded .header (.string 0x1000) (spelling [])).port.busy = some (unwanted .header (.string 0x1000))) :=
  ⟨⟨calm_of _ rfl rfl rfl, rfl, busy_onBus .., by decide⟩, ⟨by decide, rfl, by decide⟩, by decide,
    ⟨calm_of _ rfl rfl rfl, rfl, rfl⟩⟩

/-- A composer resolving unit 3 of bank 0, whose table stands at an offset. -/
def resolving (table : Word) (st : ComposerState) (got : List Word) : State :=
  busy .header (.unitWord 0x2018) { State.reset with
    speech := (speaking { state := st, planned := true, hdrWords := got
                          plan := [{ items := [.unit ⟨0, 3⟩] }, { items := [.unit ⟨0, 3⟩] }]
                          segs := [.quiet 9] }).speech
    audio := { directory := [{ present := true, count := 8, table := table }, {}, {}, {}] } }

theorem witness_UnitHeaderResolves :
    ((resolving 0x2000 .gather []).onBus .header (.unitWord 0x2018) ∧ (resolving 0x2000 .gather []).calm
        ∧ (resolving 0x2000 .gather []).speech.unresolved = ⟨0, 3⟩ :: [] ∧ (0x2000 + 8 * 3) % 4 = 0
        ∧ (resolving 0x2000 .gather []).speech.hdrWords.length + 1 < 2)
      ∧ 2 ≤ (resolving 0x2000 .gather [0x3000]).speech.hdrWords.length + 1
      ∧ (0x2002 + 8 * 3) % 4 ≠ 0 ∧ (resolving 0x2002 .gather [0]).speech.hdrWords.length + 1 < 3
      ∧ 3 ≤ (resolving 0x2002 .gather [0, 0]).speech.hdrWords.length + 1
      ∧ (resolving 0x2000 .play [0x3000]).speech.unresolved = ⟨0, 3⟩ :: []
      ∧ (resolving 0x2000 .play [0x3000]).speech.state ≠ .gather :=
  ⟨⟨busy_onBus .., calm_of _ rfl rfl rfl, by decide, by decide, by decide⟩, by decide, by decide, by decide, by decide, by decide,
    by decide⟩

/-- A composer writing a unit. -/
def playing (codes : List Byte) : State :=
  busy .sample (.sample 0x3000) (speaking { state := .play, segs := [.sound 0x3001 9], codes := codes, ramp := 64 })

theorem witness_SamplesReachBuffer :
    ((playing []).calm ∧ (playing []).onBus .sample (.sample 0x3000) ∧ (playing []).speech.segs = .sound 0x3001 9 :: [])
      ∧ ((unheeded .sample (.sample 0x3000) (playing [])).calm
        ∧ (unheeded .sample (.sample 0x3000) (playing [])).port.busy = some (unwanted .sample (.sample 0x3000)))
      ∧ (512 ≤ (List.replicate 512 (0 : Int)).length ∧ State.reset.speech.state ∈ [ComposerState.idle, .gather, .handoff, .hushed])
      ∧ ((playing [0x12]).speech.state = .play ∧ (playing [0x12]).audio.buffer.length < 512 ∧ 1 < 9
        ∧ (playing [0x12]).speech.codes = 0x12 :: [])
      ∧ (speaking { state := .gap, gapLeft := 2 }).speech.state = .gap
      ∧ (speaking { state := .gap, gapLeft := 2 }).speech.waitMark = false
      ∧ 1 < (speaking { state := .gap, gapLeft := 2 }).speech.gapLeft :=
  ⟨⟨calm_of _ rfl rfl rfl, busy_onBus .., rfl⟩, ⟨calm_of _ rfl rfl rfl, rfl⟩, ⟨Nat.le_of_eq List.length_replicate.symm, by decide⟩,
    ⟨rfl, by decide, by decide, rfl⟩, rfl, rfl, by decide⟩

theorem witness_SamplesReachBuffer_ends :
    (∃ s : State, s.calm ∧ s.speech.state = .fill ∧ s.audio.buffer.length < 512 ∧ s.speech.segs = .quiet 1 :: [.quiet 3]
        ∧ min 256 s.speech.total ≤ s.audio.buffer.length + 1)
      ∧ (∃ s : State, s.calm ∧ s.speech.state = .play ∧ s.speech.segs = [.sound 0x3000 1] ∧ s.speech.codes = [0x12]
        ∧ 0 < gapSamples s.speech.settings s.speech.settings.phraseGap ∧ s.speech.last = false)
      ∧ ∃ s : State, s.calm ∧ s.speech.state = .gap ∧ s.speech.waitMark = false ∧ s.speech.gapLeft = 1 ∧ s.speech.gap = .trailing
        ∧ s.speech.last = true ∧ s.audio.buffer.length < 512 :=
  ⟨⟨speaking { state := .fill, segs := [.quiet 1, .quiet 3] }, calm_of _ rfl rfl rfl, rfl, by decide, rfl, by decide⟩,
    ⟨speaking { state := .play, segs := [.sound 0x3000 1], codes := [0x12] }, calm_of _ rfl rfl rfl, rfl, rfl, rfl, by decide, rfl⟩,
    ⟨speaking { state := .gap, gapLeft := 1, last := true }, calm_of _ rfl rfl rfl, rfl, rfl, rfl, rfl, rfl, by decide⟩⟩

/-- A composer at the last 0 of a switch gap. -/
def switching (q : List Utterance) : State :=
  { State.reset with speech := { queue := q, state := .gap, gap := .switch, gapLeft := 1 } }

/-- The settings of an utterance with no pauses between its phrases. -/
def pauseless : SpeechSettings := .of { phraseGap := 0, finalGap := 0, switchGap := 0 }

theorem witness_SamplesReachBuffer_pauseless :
    (∀ last, (speaking { state := .play, settings := pauseless, last, segs := [.quiet 1] }).calm
        ∧ (speaking { state := .play, settings := pauseless, last, segs := [.quiet 1] }).speech.segs = .quiet 1 :: []
        ∧ gapSamples (speaking { state := .play, settings := pauseless, last, segs := [.quiet 1] }).speech.settings
          (if last then pauseless.finalGap else pauseless.phraseGap) = 0)
      ∧ ((speaking { state := .gap, gapLeft := 1, plan := [{}, { handoff := some (0x100, .word) }] }).speech.last = false
        ∧ (speaking { state := .gap, gapLeft := 1, plan := [{}, { handoff := some (0x100, .word) }] }).speech.gap = .trailing
        ∧ ((speaking { state := .gap, gapLeft := 1, plan := [{}, { handoff := some (0x100, .word) }] }).speech.plan.getD 1 {}).handoff ≠ none)
      ∧ (({ items := [.unit ⟨0, 1⟩] } : Phrase).handoff = none
        ∧ ({ items := [.unit ⟨0, 1⟩] } : Phrase).units.length ≤ [UnitHeader.silence].length
        ∧ ({ items := [.unit ⟨0, 1⟩] } : Phrase).units.drop ([] : List UnitHeader).length = ⟨0, 1⟩ :: []
        ∧ badWithoutRead [{ present := true, count := 2, table := 0x2000 }] ⟨0, 1⟩ = false)
      ∧ ∀ q ∈ [[], [waitingHead .prompt 7]], (switching q).calm ∧ (switching q).speech.state = .gap
        ∧ (switching q).speech.waitMark = false ∧ (switching q).speech.gap = .switch ∧ (switching q).speech.gapLeft = 1
        ∧ (switching q).hush = false ∧ (switching q).audio.buffer.length < 512 ∧ (switching q).speech.queue = q
        ∧ ∀ u ∈ q, u.playing = false :=
  ⟨fun last => ⟨calm_of _ rfl rfl rfl, rfl, by cases last <;> rfl⟩, by decide, by decide,
    fun q hq => ⟨calm_of _ rfl rfl rfl, rfl, rfl, rfl, rfl, rfl, Nat.zero_lt_succ _, rfl, by revert q; decide⟩⟩

/-- A hand-off that is requested, with an access of the composer in progress. -/
def handing (a : Access) : State :=
  busy .header a (speaking { state := .handoff, record := { seq := 3, state := .requested } })

theorem witness_HandoffAccesses :
    ((handing (.recWrite (.cardRef 0x100))).calm ∧ (handing (.recWrite (.cardRef 0x100))).onBus .header (.recWrite (.cardRef 0x100)))
      ∧ ((HandoffState.requested = .requested ∧ ¬ ((handing (.recWrite (.state 2 .requested .word))).speech.record.state = .requested
          ∧ (handing (.recWrite (.state 2 .requested .word))).speech.record.seq = 2))
        ∧ (handing (.recWrite (.state 2 .requested .word))).onBus .header (.recWrite (.state 2 .requested .word)))
      ∧ (handing (.recWrite (.state 3 .cancelled .word))).onBus .header (.recWrite (.state 3 .cancelled .word))
      ∧ (handing (.recWrite (.state 3 .requested .word))).onBus .header (.recWrite (.state 3 .requested .word))
      ∧ (handing (.recWrite (.state 3 .requested .word))).speech.record.state = .requested
      ∧ (handing (.recWrite (.state 3 .requested .word))).speech.record.seq = 3 :=
  ⟨⟨calm_of _ rfl rfl rfl, busy_onBus ..⟩, ⟨⟨rfl, by decide⟩, busy_onBus ..⟩, busy_onBus .., busy_onBus .., rfl, rfl⟩

theorem witness_HandoffAccesses_done :
    ((handing .doneRead).calm ∧ (handing .doneRead).onBus .header .doneRead ∧ (handing .doneRead).speech.record.state = .requested
        ∧ (0xFFFFFF03 : Word).toNat % 256 = (handing .doneRead).speech.record.seq
        ∧ 0 < gapSamples (handing .doneRead).speech.settings (handing .doneRead).speech.settings.phraseGap
        ∧ (handing .doneRead).speech.last = false)
      ∧ (0x300 : Word).toNat % 256 ≠ (handing .doneRead).speech.record.seq
      ∧ (handing .composerMirror).onBus .header .composerMirror
      ∧ (handing (.scCopy .echoDropped)).onBus .header (.scCopy .echoDropped) :=
  ⟨⟨calm_of _ rfl rfl rfl, busy_onBus .., rfl, by decide, by decide, rfl⟩, by decide, busy_onBus .., busy_onBus ..⟩

/-- A done read whose request is over, a new one made and a nudge waiting. -/
def staleDone : State :=
  { unheeded .header .doneRead (speaking { state := .handoff, record := { seq := 4, state := .requested }, donePending := true }) with
    lc := {} }

theorem witness_HandoffAccesses_stale :
    staleDone.calm ∧ staleDone.port.busy = some (unwanted .header .doneRead) ∧ (unwanted .header .doneRead).discard = true
      ∧ (unwanted .header .doneRead).orphan = false ∧ staleDone.speech.donePending = true ∧ staleDone.speech.record.state = .requested :=
  ⟨calm_of _ rfl rfl rfl, rfl, rfl, rfl, rfl, rfl⟩

theorem witness_NudgeDelivered : (handing .doneRead).calm ∧ (handing .doneRead).speech.record.state = .requested :=
  ⟨calm_of _ rfl rfl rfl, rfl⟩

theorem witness_LettersTaken :
    (keyed 27 { state := .listening }).calm ∧ (keyed 27 { state := .listening }).engine.state = .listening
      ∧ (keyed 27 { state := .listening }).lc.active.mode = .whole
      ∧ (keyed 27 { state := .listening }).scanner.fifo = { pos := 0, meaning := 27, time := 0 } :: []
      ∧ 1 ≤ 1 ∧ 27 ≤ 27 ∧ (keyed 27 { state := .listening, trail := List.replicate 31 1 }).engine.trail.length < 32
      ∧ ¬ (keyed 27 { state := .listening, trail := List.replicate 32 1 }).engine.trail.length < 32
      ∧ ({ echo := false } : Context).echo = false :=
  ⟨calm_of _ rfl rfl rfl, rfl, rfl, rfl, by decide, by decide, by decide, by decide, rfl⟩

/-- A LIVE try of the words [3, 1] and [3, 1, 20] with a letter at the head of the FIFO. -/
def live (trail : List Nat) (key : Nat) (limit : Nat) : State :=
  { keyed key { state := .listening } with
    engine := { state := .listening, trail, live := [1, 2], image := { alternates := [[3, 1], [3, 1, 20]] } }
    lc := { (trying {}).lc with active := { mode := .live, slipLimit := limit } } }

theorem witness_LettersTaken_live :
    ((live [3] 1 3).calm ∧ (live [3] 1 3).engine.state ∈ [AttemptState.listening, .settling] ∧ (live [3] 1 3).lc.active.mode = .live
        ∧ (live [3] 1 3).scanner.fifo = { pos := 0, meaning := 1, time := 0 } :: []
        ∧ (live [3] 1 3).engine.live.filter (fun a => decide (1 < ((live [3] 1 3).engine.image.alternates.getD (a - 1) []).length
          ∧ ((live [3] 1 3).engine.image.alternates.getD (a - 1) []).getD 1 0 = 1)) = [1, 2]
        ∧ ((live [3] 1 3).engine.image.alternates.getD (1 - 1) []).length = 1 + 1
        ∧ 1 + 1 < ((live [3] 1 3).engine.image.alternates.getD (2 - 1) []).length)
      ∧ ((live [] 3 3).engine.image.alternates.getD (1 - 1) []).length ≠ 0 + 1
      ∧ ((live [3, 1] 20 3).engine.image.alternates.getD (2 - 1) []).length = 2 + 1
      ∧ ((live [3] 5 3).engine.live.filter (fun a => decide (1 < ((live [3] 5 3).engine.image.alternates.getD (a - 1) []).length
          ∧ ((live [3] 5 3).engine.image.alternates.getD (a - 1) []).getD 1 0 = 5)) = []
        ∧ (live [3] 5 3).engine.slipsHere + 1 < (live [3] 5 3).lc.active.slipLimit
        ∧ (live [3] 5 1).lc.active.slipLimit ≤ (live [3] 5 1).engine.slipsHere + 1
        ∧ (live [3] 5 1).hush = false ∧ (live [3] 5 1).speech.queue.length < 3) :=
  ⟨⟨calm_of _ rfl rfl rfl, by decide, rfl, rfl, by decide, by decide, by decide⟩, by decide, by decide, by decide, by decide,
    by decide, by decide, by decide⟩

theorem witness_LettersTaken_prompting :
    ({ live [3] 1 3 with engine := { (live [3] 1 3).engine with state := .prompting } } : State).calm
      ∧ ({ live [3] 1 3 with engine := { (live [3] 1 3).engine with state := .prompting } } : State).promptHandedOff = false
      ∧ ({ live [3] 1 3 with engine := { (live [3] 1 3).engine with state := .prompting } } : State).lc.active.barge = .allow
      ∧ ({ live [3] 1 3 with engine := { (live [3] 1 3).engine with state := .prompting } } : State).lc.active.mode = .live :=
  ⟨calm_of _ rfl rfl rfl, by decide, rfl, rfl⟩

theorem witness_HelpKeys :
    (∀ k ∈ [29, 30, 31, 32], (keyed k { state := .listening }).calm
        ∧ (keyed k { state := .listening }).scanner.fifo = { pos := 0, meaning := k, time := 0 } :: []
        ∧ (keyed k { state := .listening }).engine.state = .listening)
      ∧ ((keyed 30 { state := .listening }).engine.hints < (keyed 30 { state := .listening }).lc.active.hintMax
        ∧ 1 ∉ (keyed 30 { state := .listening }).engine.shown.getD (1 - 1) [] ∧ 1 ∉ (keyed 30 { state := .listening }).engine.revealed)
      ∧ (keyed 30 { state := .listening, hints := 7 }).lc.active.hintMax ≤ (keyed 30 { state := .listening, hints := 7 }).engine.hints
      ∧ ((live [3] 30 3).lc.active.mode = .live ∧ 1 ∈ (live [3] 30 3).engine.live)
      ∧ (keyed 29 { state := .listening, trail := [3] }).engine.trail ≠ []
      ∧ ((keyed 28 { state := .prompting, trail := [3] }).engine.state = .prompting
        ∧ (keyed 28 { state := .prompting, trail := [3] }).promptHandedOff = false
        ∧ ({ (keyed 28 { state := .prompting, trail := [3] }).lc.active with barge := .allow } : Context).barge = .allow
        ∧ (keyed 28 { state := .prompting, trail := [3] }).engine.trail.length < 32) :=
  ⟨fun _ _ => ⟨calm_of _ rfl rfl rfl, rfl, rfl⟩, by decide, by decide, by decide, by decide, by decide⟩

/-- A key at the head while a prompt plays under a barge rule. -/
def barging (b : Barge) : State :=
  { keyed 3 { state := .prompting } with lc := { (trying {}).lc with active := { barge := b } } }

theorem witness_KeysByEngineState :
    State.reset.scanner.fifo = []
      ∧ ((keyed 3 { state := .feedback }).scanner.fifo = { pos := 0, meaning := 3, time := 0 } :: []
        ∧ (keyed 3 { state := .feedback }).calm
        ∧ (keyed 3 { state := .feedback }).engine.state ∈ [AttemptState.idle, .judging, .feedback, .suspended])
      ∧ ((barging .hold).calm ∧ (barging .hold).engine.state = .prompting ∧ (barging .hold).lc.active.barge = .hold)
      ∧ ((barging .discard).calm ∧ (barging .discard).promptHandedOff = false ∧ (barging .discard).lc.active.barge = .discard)
      ∧ ((keyed 3 { state := .speaking }).engine.state = .speaking ∧ 3 ∉ [28, 31, 32])
      ∧ (keyed 28 { state := .listening, trail := [3] }).calm ∧ (keyed 28 { state := .listening, trail := [3] }).engine.trail ≠ []
      ∧ (keyed 28 { state := .listening, trail := [3] }).lc.active.mode = .whole
      ∧ (keyed 28 { state := .listening, trail := [3] }).scanner.fifo = { pos := 0, meaning := 28, time := 0 } :: [] :=
  ⟨rfl, ⟨rfl, calm_of _ rfl rfl rfl, by decide⟩, ⟨calm_of _ rfl rfl rfl, rfl, rfl⟩, ⟨calm_of _ rfl rfl rfl, by decide, rfl⟩,
    ⟨rfl, by decide⟩, calm_of _ rfl rfl rfl, by decide, rfl, rfl⟩

theorem witness_HelpKeys_prompting : (barging .allow).calm ∧ (barging .allow).engine.state = .prompting
    ∧ (barging .allow).promptHandedOff = false ∧ (barging .allow).lc.active.barge = .allow ∧ (barging .allow).lc.active.mode = .whole :=
  ⟨calm_of _ rfl rfl rfl, rfl, by decide, rfl, rfl⟩

/-- A SAY presentation with a key at the head of the FIFO. -/
def saying (key : Nat) : State :=
  { keyed key { state := .speaking, awaitSay := some 1 } with
    lc := { lesson := .presenting, current := some { card := { ref := 0x100, kind := 3 }, image := .say 0x400, review := false } }
    speech := { state := .play, queue := [{ seq := 1, kind := .say, parts := [], bank := 0, playing := true }] } }

theorem witness_KeysByEngineState_speaking :
    ((saying 28).calm ∧ (saying 28).engine.state = .speaking ∧ (saying 28).engine.awaitSay = some 1
        ∧ ((saying 28).speech.queue.map (·.seq)).Nodup ∧ ∃ cur, (saying 28).lc.current = some cur ∧ ∀ w, cur.image ≠ .word w)
      ∧ (saying 31).scanner.fifo = { pos := 0, meaning := 31, time := 0 } :: [] ∧ (saying 31).speech.queue.length < 4 :=
  ⟨⟨calm_of _ rfl rfl rfl, rfl, rfl, by decide, _, rfl, fun w h => nomatch h⟩, rfl, by decide⟩

theorem witness_HelpKeys_barging : ∀ k ∈ [29, 30], (keyed k { state := .prompting, trail := [3] }).calm
    ∧ (keyed k { state := .prompting, trail := [3] }).promptHandedOff = false
    ∧ (keyed k { state := .prompting, trail := [3] }).lc.active.barge = .allow
    ∧ (keyed k { state := .prompting, trail := [3] }).lc.active.mode = .whole
    ∧ (keyed k { state := .prompting, trail := [3] }).engine.trail ≠ []
    ∧ (keyed k { state := .prompting, trail := [3] }).scanner.fifo = { pos := 0, meaning := k, time := 0 } :: [] :=
  fun _ _ => ⟨calm_of _ rfl rfl rfl, rfl, rfl, rfl, (fun h => nomatch h), rfl⟩

theorem witness_KeysByEngineState_enter :
    ((keyed 28 { state := .listening }).calm ∧ (keyed 28 { state := .listening }).engine.trail = [])
      ∧ (keyed 28 { state := .settling, trail := [3, 1, 20] }).calm
      ∧ (keyed 28 { state := .settling, trail := [3, 1, 20] }).engine.state = .settling
      ∧ 1 ∈ (keyed 28 { state := .settling, trail := [3, 1, 20] }).engine.live
      ∧ (keyed 28 { state := .settling, trail := [3, 1, 20] }).engine.altLength 1
        = (keyed 28 { state := .settling, trail := [3, 1, 20] }).engine.trail.length :=
  ⟨⟨calm_of _ rfl rfl rfl, rfl⟩, calm_of _ rfl rfl rfl, rfl, .head _, rfl⟩

/-- A job in the Alignment Unit. -/
def aligning (e : Engine) : State := { trying e with unit := { state := .filling, trail := [3, 1, 20], alternates := [[3, 1, 20]] } }

theorem witness_JudgingResultTaken :
    State.reset.calm ∧ State.reset.unit.busy = false ∧ State.reset.unit.inRange ∧ (aligning {}).unit.inRange
      ∧ ((aligning { state := .judging }).calm ∧ (aligning { state := .judging }).unit.busy = true
        ∧ (aligning { state := .judging }).engine.state = .judging)
      ∧ ((aligning { state := .suspended, left := .judging }).calm
        ∧ (aligning { state := .suspended, left := .judging }).engine.state = .suspended
        ∧ (aligning { state := .suspended, left := .judging }).engine.left = .judging
        ∧ (aligning { state := .suspended, left := .judging }).engine.feedbackDue = false)
      ∧ (aligning { state := .idle }).engine.state ≠ .judging ∧ (aligning { state := .idle }).engine.state ≠ .suspended :=
  ⟨calm_of _ rfl rfl rfl, rfl, AlignUnit.idle_inRange, AlignUnit.request_inRange [3, 1, 20] [[3, 1, 20]],
    ⟨calm_of _ rfl rfl rfl, rfl, rfl⟩, ⟨calm_of _ rfl rfl rfl, rfl, rfl, rfl⟩, by decide, by decide⟩

/-- A presentation at its end, the final try's verdict given. -/
def deciding (v : Verdict) (q : List ReviewEntry) : State :=
  { finished { verdict := v } with
    lc := { (finished {}).lc with queue := q }, line := { card := some 0x100 } }

theorem witness_PresentationEndDecides :
    State.reset.engine.ending = false
      ∧ ((deciding .wrong []).engine.ending = true ∧ (deciding .wrong []).engine.words = []
        ∧ (deciding .wrong []).port.free .engine = true ∧ (deciding .wrong []).port.writeBlock = false
        ∧ (∃ cur, (deciding .wrong []).lc.current = some cur ∧ cur.image = .word cat)
        ∧ (deciding .wrong []).line.card.isSome = true
        ∧ ¬ ((deciding .wrong []).engine.finalTry.verdict = .correct ∧ (deciding .wrong []).engine.finalTry.tryNo = 1
          ∧ (deciding .wrong []).lc.active.pass ≤ (deciding .wrong []).engine.finalTry.score)
        ∧ min cat.reviews 2 < (deciding .wrong []).lc.active.reviewMax ∧ (deciding .wrong []).lc.queue.length < 16)
      ∧ ¬ (deciding .wrong (List.replicate 16 (catEntry 1))).lc.queue.length < 16
      ∧ (deciding .correct []).engine.finalTry.verdict = .correct := by
  refine ⟨rfl, ⟨rfl, rfl, rfl, rfl, ⟨_, rfl, rfl⟩, rfl, ?_, ?_, ?_⟩, ?_, rfl⟩ <;> decide

theorem witness_ScoreAndVerdict : 1 ≤ 1 ∧ 7 ≤ 7 ∧ 1 ≤ 1 ∧ 1 ≤ 24 ∧ 0 ≤ 7 ∧ 24 ≤ 24 ∧ 24 ≤ 25 := by decide

theorem witness_DistanceExact : [[3, 1, 20]] ≠ ([] : List (List Nat)) ∧ 2 ≤ [3, 1, 20].length
    ∧ 1 < [6, 18].length ∧ [6, 18].getD 1 0 = [18, 6].getD 0 0 ∧ [6, 18].getD 0 0 = [18, 6].getD 1 0
    ∧ [6, 18].getD 1 0 ≠ [6, 18].getD 0 0 := by decide

theorem witness_MarksAndCounts : [[3, 1, 20], [11, 20]] ≠ ([] : List (List Nat))
    ∧ (judge [11, 20] [[3, 1, 20], [11, 20]]).2.matched = 2 := by decide

theorem witness_ReviewQueueAndGap : [catEntry 1, catEntry 1, catEntry 3].Pairwise (fun a b => a.due ≤ b.due)
    ∧ (({ tryNo := 1, verdict := .correct, score := 70, words := [] } : FinalTry).tryNo = 1 ∧ 70 ≤ 70)
    ∧ (({ tryNo := 2, verdict := .correct, score := 94, words := [] } : FinalTry).tryNo ≠ 1)
    ∧ Verdict.gaveUp ∈ [Verdict.wrong, .timedOut, .gaveUp] ∧ 1 ≤ 1 ∧ 8 ≤ 8 ∧ 15 ≤ 15 :=
  ⟨by simp [catEntry], by decide, by decide, by decide, by decide, by decide, by decide⟩

theorem witness_SamplesFormedAndSent_forming : 31 ≤ 31 ∧ 64 ≤ 64 ∧ 1 ≤ 1 ∧ 1 ≤ 64 ∧ 64 ≤ (List.replicate 65 (100 : Int)).length :=
  ⟨by decide, by decide, by decide, by decide, by rw [List.length_replicate]; decide⟩

/-- The body of a WORD card with one alternate of one letter. -/
def wordBody (count pron letter : Byte) : List Byte :=
  [count, 0, 0, 0, pron, 0, 0, 0] ++ List.replicate 28 0 ++ [1, letter] ++ List.replicate 82 0

theorem witness_CardChecksAndMerges :
    (0 : Byte) ∉ [1#8, 2#8, 3#8, 4#8] ∧ (5 : Byte) ∉ [1#8, 2#8, 3#8, 4#8]
      ∧ (byteAt (wordBody 1 4 27) 0 = 1 ∧ byteAt (wordBody 1 4 27) 0x24 = 1 ∧ byteAt (wordBody 1 4 27) 0x25 = 27
        ∧ (wordAt (wordBody 1 4 27) 4).toNat = 4 ∧ (wordAt (wordBody 1 4 27) 8).toNat = 0)
      ∧ byteAt (wordBody 1 4 28) 0x25 = 28 ∧ ¬ byteAt (wordBody 4 4 1) 0 ≤ 3
      ∧ 0x3FFA0 < (wordAt ([1, 0, 0, 0, 0xA1, 0xFF, 3, 0] ++ (wordBody 1 4 27).drop 8) 4).toNat := by decide

theorem witness_RegistersOnlyByOwnCommands :
    exec .run State.reset = .next (after .run State.reset)
      ∧ (∃ t, exec (.millisecondStep 0 false) State.reset = .next t)
      ∧ ((∀ v, Instr.run ≠ .eventsWrite v) ∧ Instr.run ∉ [Instr.reset, .powerOnReset]
        ∧ ({ State.reset with port := { events := 0x80 } } : State).port.events.getLsbD 7 = true) :=
  ⟨rfl, ⟨_, rfl⟩, fun _ => by simp, by decide, by decide⟩

/-- A lesson that waits, with one card to review, and a host command for it. -/
def reviewing : State :=
  { State.reset with pending := [.windowWrite 0xFFFFFFFF], lc := { lesson := .waiting, queue := [catEntry 15] } }

theorem witness_StepKeepsRanges : reviewing.InRange ∧ ∃ t, step reviewing = .next t :=
  ⟨{ port := by unfold Port.inRange; decide
     walker := ⟨by unfold Context.inRange; decide, trivial⟩
     lc := ⟨by decide, by
        intro e he
        cases List.mem_singleton.1 he
        exact ⟨by decide, by intro a ha; cases List.mem_singleton.1 ha; decide, by decide⟩,
        by unfold Context.inRange; decide, fun _ h => (nomatch h), fun _ h => (nomatch h)⟩
     scanner := ⟨by decide, by decide, by decide, by decide, by decide, fun d hd => by
        cases List.eq_of_mem_replicate hd; trivial⟩
     clock := fun n => Nat.zero_le _ |> fun h => by cases n <;> exact h
     engine := ⟨⟨(fun _ h => by cases h), by decide⟩, by decide⟩
     unit := AlignUnit.idle_inRange
     speech := ⟨by decide, by decide, by decide, by decide, by unfold SpeechSettings.inRange; decide⟩
     audio := by unfold Audio.inRange; decide }, _, rfl⟩

theorem witness_StepKeepsOneAccess :
    ({ contended with pending := [.busGrant] } : State).port.oneAccess
      ∧ ∃ t, step { contended with pending := [.busGrant] } = .next t :=
  ⟨fun r _ => by cases r <;> rfl, _, rfl⟩

/-- A composer in a state with the utterances of these kinds, the head PLAYING or not. -/
def sounding (kinds : List UtteranceKind) (playing : Bool) (c : Speech) : State :=
  { State.reset with
    speech := { c with queue := ((List.range kinds.length).zip kinds).map fun (n, k) =>
      { seq := n, kind := k, parts := [], bank := 0, playing := playing && n = 0 } } }

theorem witness_HushHoldsSpeech :
    ((sounding [.echo, .cue] true { state := .play }).calm ∧ (sounding [.echo, .cue] true { state := .play }).hush = false
        ∧ ∃ u us, (sounding [.echo, .cue] true { state := .play }).speech.queue = u :: us ∧ u.kind = .echo)
      ∧ (∃ u us, (sounding [.prompt, .echo] false {}).speech.queue = u :: us ∧ u.kind ∉ [UtteranceKind.echo, .cue] ∧ u.playing = false)
      ∧ (∀ st ∈ [ComposerState.gather, .fill, .play, .handoff, .gap, .hushed],
        (sounding [.prompt, .echo] true { state := st, planned := true }).speech.state = st
          ∧ ∃ u us, (sounding [.prompt, .echo] true { state := st, planned := true }).speech.queue = u :: us
            ∧ u.kind ∉ [UtteranceKind.echo, .cue] ∧ u.playing = true)
      ∧ (prompting.speech.record.state = .requested ∧ prompting.hush = false)
      ∧ (∃ s : State, s.calm ∧ s.speech.state = .gap ∧ s.speech.last = true ∧ s.engine.state = .prompting
        ∧ s.engine.awaitPrompt = some 1)
      ∧ ((held true).calm ∧ (held true).audio.softHush = true ∧ (held true).audio.filter.on = false
        ∧ (held true).speech.state = .hushed ∧ (held true).clock.restart.state = .idle) :=
  ⟨⟨calm_of _ rfl rfl rfl, rfl, _, _, rfl, rfl⟩, ⟨_, _, rfl, by decide, rfl⟩, fun _ _ => ⟨rfl, _, _, rfl, by decide, rfl⟩, ⟨rfl, rfl⟩,
    ⟨{ spoken with speech := { spoken.speech with last := true } }, calm_of _ rfl rfl rfl, rfl, rfl, rfl, rfl⟩,
    calm_of _ rfl rfl rfl, rfl, rfl, rfl, rfl⟩

theorem witness_HushHoldsSpeech_reads :
    (busy .header .doneRead State.reset).port.busy = some (onPortOf .header .doneRead)
      ∧ (onPortOf .header .doneRead).orphan = false ∧ (busy .header .doneRead State.reset).port.waiting.header = none
      ∧ (onPortOf .header .doneRead).access.isHeaderRead = true ∧ (onPortOf .sample (.sample 0)).requester = .sample := by decide

theorem witness_CutAndPlacement :
    ((sounding [.prompt] true {}).hush = false ∧ (sounding [.prompt] true {}).speech.queue.length < 4)
      ∧ (∃ a v b, (sounding [.prompt, .echo, .cue, .say] true {}).speech.queue = a ++ v :: b ∧ v.playing = false ∧ v.kind = .echo
        ∧ ∀ x ∈ b, ¬ (x.playing = false ∧ x.kind = .echo))
      ∧ (∃ a v b, (sounding [.prompt, .echo, .cue, .say] true {}).speech.queue = a ++ v :: b ∧ v.playing = false ∧ v.kind = .cue
        ∧ ∀ x ∈ b, ¬ (x.playing = false ∧ (x.kind = .echo ∨ x.kind = .cue)))
      ∧ (4 ≤ (sounding [.prompt, .say, .say, .say] true {}).speech.queue.length
        ∧ ∀ x ∈ (sounding [.prompt, .say, .say, .say] true {}).speech.queue, ¬ (x.playing = false ∧ (x.kind = .echo ∨ x.kind = .cue)))
      ∧ (∀ v ∈ (sounding [.prompt, .say] true {}).speech.queue, v.seq ≠ 9)
      ∧ (∀ st ∈ [ComposerState.hushed, .play], (sounding [.prompt, .say] true { state := st }).speech.state = st
        ∧ ∃ u us, (sounding [.prompt, .say] true { state := st }).speech.queue = u :: us ∧ u.seq = 0 ∧ u.playing = true ∧ us ≠ [])
      ∧ 0 < gapSamples (sounding [.prompt, .say] true { state := .play }).speech.settings
        (sounding [.prompt, .say] true { state := .play }).speech.settings.switchGap
      ∧ gapSamples (.of { switchGap := 0 }) (SpeechSettings.of { switchGap := 0 }).switchGap = 0 :=
  ⟨by decide, ⟨[_], _, [_, _], rfl, rfl, rfl, by decide⟩, ⟨[_, _], _, [_], rfl, rfl, rfl, by decide⟩, by decide, by decide,
    fun _ _ => ⟨rfl, _, _, rfl, rfl, rfl, by simp⟩, by decide, by decide⟩

theorem witness_StringsAndPhrases : (0x7C : Byte).toNat ≤ 0x7C ∧ 0x80 ≤ (0x80 : Byte).toNat ∧ ([⟨0, 1⟩] : List UnitRef) ≠ []
    ∧ (∀ x ∈ ([[⟨0, 1⟩], [⟨0, 2⟩, ⟨0, 3⟩]] : List (List UnitRef)), x ≠ []) ∧ ([⟨0, 1⟩] : List UnitRef).length ≤ 1
    ∧ 1 < ([⟨0, 1⟩, ⟨0, 2⟩] : List UnitRef).length
    ∧ (partPhrases 2 10 [[⟨0, 1⟩]]).1 = [] ++ [{ items := [.unit ⟨0, 1⟩] }] ∧ 8 ≤ (SpeechSettings.of {}).rate := by decide

theorem witness_LineAndMask :
    (({} : Engine).verdict = .noVerdict ∧ 1 ∈ (live [3] 1 3).engine.live ∧ ∀ b ∈ (live [3] 1 3).engine.live, 1 ≤ b)
      ∧ (({ verdict := .wrong, judged := { matched := 2 } } : Engine).verdict ∈ [Verdict.correct, .close, .wrong]
        ∧ 2 = ({ verdict := .wrong, judged := { matched := 2 } } : Engine).judged.matched)
      ∧ ({ verdict := .gaveUp } : Engine).verdict ∈ [Verdict.timedOut, .gaveUp] := by decide

theorem witness_WindowAccesses :
    (lastWrite .presenting).lc.ending = some (endOfCat .done false)
      ∧ (endOfCat .done false).final = some { tryNo := 1, verdict := .correct, score := 100, words := [] }
      ∧ (endOfCat .done false).image = .word cat
      ∧ (passing .passTime .time).scanner.passOp = some ({ pos := 1, meaning := 33, time := 0 }, .time) := ⟨rfl, rfl, rfl, rfl⟩

/-! ### What is placed and drawn -/

/-- A try whose opening prompt has ended. -/
def opened (e : Engine) : Engine := { e with opening := .done, openingDone := some 5 }

theorem witness_JudgingResultTaken_times :
    (aligning (opened { state := .judging })).engine.opening = .done
      ∧ (aligning (opened { state := .judging })).engine.openingDone = some 5
      ∧ (aligning { state := .judging }).engine.opening ≠ .done ∧ (aligning { state := .judging }).speech.feedbackRoom
      ∧ (aligning { state := .suspended, left := .judging }).engine.awaitPrompt = none :=
  ⟨rfl, rfl, by decide, by unfold Speech.feedbackRoom; decide, rfl⟩

theorem witness_EngineExpiries_placed :
    (reprompted { state := .listening } false).speech.queue.length < 4
      ∧ (reprompted (opened { state := .listening, reprompts := 3 }) false).speech.feedbackRoom
      ∧ (reprompted (opened { state := .listening, reprompts := 3 }) false).engine.openingDone = some 5 :=
  ⟨by decide, by unfold Speech.feedbackRoom; decide, rfl⟩

theorem witness_KeysByEngineState_times :
    (keyed 28 { state := .settling, trail := [3, 1, 20] }).speech.feedbackRoom
      ∧ (keyed 28 (opened { state := .settling, trail := [3, 1, 20] })).engine.openingDone = some 5
      ∧ (keyed 28 (opened { state := .settling, trail := [3, 1, 20] })).engine.opening = .done :=
  ⟨by unfold Speech.feedbackRoom; decide, rfl, rfl⟩

theorem witness_LettersTaken_spoken :
    ((keyed 3 { state := .listening }).lc.active.echo = true ∧ (keyed 3 { state := .listening }).hush = false
        ∧ (keyed 3 { state := .listening }).speech.queue.length < 4)
      ∧ 32 ≤ (keyed 3 { state := .listening, trail := List.replicate 32 1 }).engine.trail.length
      ∧ ((live [3] 5 3).hush = false ∧ (live [3] 5 3).speech.queue.length < 4)
      ∧ (live [3] 1 3).lc.active.echo = true ∧ (live [3, 1] 20 3).speech.feedbackRoom :=
  ⟨by decide, by decide, by decide, rfl, by unfold Speech.feedbackRoom; decide⟩

theorem witness_HelpKeys_spoken :
    (keyed 30 { state := .listening }).hush = false ∧ (keyed 30 { state := .listening }).speech.queue.length < 4
      ∧ (keyed 32 { state := .listening }).speech.feedbackRoom
      ∧ (keyed 3 { state := .prompting }).lc.active.echo = true
      ∧ ¬ (keyed 3 { state := .prompting, trail := List.replicate 32 1 }).engine.trail.length < 32 :=
  ⟨rfl, by decide, by unfold Speech.feedbackRoom; decide, rfl, by decide⟩

/-- A held utterance of these parts, with the RESTART expiry delivered. -/
def holding (playing planned : Bool) (replay : Replay) (plan : List Phrase) (parts : List Part) : State :=
  { held false with
    speech := { state := .hushed, planned, replay, plan, queue := [{ seq := 1, kind := .prompt, parts, bank := 0, playing }] } }

theorem witness_ComposerExpiries_replay :
    (∀ p ∈ [({ items := [.unit ⟨0, 1⟩] } : Phrase), { handoff := some (0x100, .word) }],
      (holding true true (.phrase 0) [p] []).speech.planned = true ∧ (holding true true (.phrase 0) [p] []).speech.replay = .phrase 0
        ∧ (holding true true (.phrase 0) [p] []).speech.plan.getD 0 {} = p
        ∧ ∃ u us, (holding true true (.phrase 0) [p] []).speech.queue = u :: us ∧ u.playing = true)
    ∧ (∀ parts ∈ [[], [Part.cue 6], [Part.cue 6, .word 0x1000 false 5]],
      (holding false false .start [] parts).hush = false ∧ (holding false false .start [] parts).clock.restart.expired = true
        ∧ ∃ u us, (holding false false .start [] parts).speech.queue = u :: us ∧ u.parts = parts ∧ u.playing = false)
    ∧ partString [] 0 (.of {}) (.word 0x1000 false 5) = some 0x1000 ∧ partString [] 0 (.of {}) (.cue 6) = none :=
  ⟨fun _ _ => ⟨rfl, rfl, rfl, _, _, rfl, rfl⟩, fun _ _ => ⟨rfl, rfl, _, _, rfl, rfl, rfl⟩, by decide, by decide⟩

/-- A string read for an utterance with these parts left. -/
def spellingOf (parts : List Part) (e : Engine) : State :=
  busy .header (.string 0x1000)
    { trying e with
      speech := { (speaking { state := .gather, strRef := some 0x1000 }).speech with parts := parts } }

theorem witness_StringReadDecodes_goesOn :
    (spellingOf [.cue 6, .word 0x1000 false 5] {}).calm ∧ (spellingOf [.cue 6, .word 0x1000 false 5] {}).speech.strRef = some 0x1000
      ∧ (spellingOf [.cue 6, .word 0x1000 false 5] {}).onBus .header (.string 0x1000)
      ∧ (decodeString 0 (wordBytes 0x7F7F7F7F)).2 = true
      ∧ (∃ x ∈ (spellingOf [.cue 6, .word 0x1000 false 5] {}).speech.parts, partString [] 0 (.of {}) x ≠ none)
      ∧ 1 ≤ (spellingOf [.cue 6] {}).speech.settings.maxPhrase :=
  ⟨calm_of _ rfl rfl rfl, rfl, busy_onBus .., by decide, ⟨_, List.mem_cons_of_mem _ (List.mem_singleton.2 rfl), by decide⟩, by decide⟩

/-- A string that ends at its first byte leaves a plan without any phrase. -/
theorem witness_StringReadDecodes_empty :
    (decodeString 0 (wordBytes 0x7F7F7F7F)).2 = true
      ∧ (partPhrases 24 1920 (tokenWords (decodeString 0 (wordBytes 0x7F7F7F7F)).1)).1 = []
      ∧ (∀ e ∈ [({ state := .prompting, awaitPrompt := some 1 } : Engine),
          { state := .feedback, awaitFeedback := some 1, final := true }],
        (spellingOf [] e).calm ∧ (spellingOf [] e).speech.plan = [] ∧ (spellingOf [] e).speech.parts = []
          ∧ ∃ u, (spellingOf [] e).speech.queue = [u] ∧ u.seq = 1)
      ∧ (spellingOf [] { state := .prompting, awaitPrompt := some 1 }).engine.awaitPrompt = some 1
      ∧ (∃ s : State, s.calm ∧ s.speech.strRef = some 0x1000 ∧ s.onBus .header (.string 0x1000) ∧ s.engine.state = .speaking
        ∧ s.engine.awaitSay = some 1 ∧ ∃ cur, s.lc.current = some cur ∧ ∀ w, cur.image ≠ .word w)
      ∧ ∃ s : State, s.calm ∧ s.speech.strRef = some 0x1000 ∧ s.onBus .header (.string 0x1000) ∧ s.hush = false
        ∧ s.engine.state = .judging ∧ ∃ u w us, s.speech.queue = u :: w :: us ∧ w.playing = false :=
  ⟨by decide, by decide, by
      intro e he
      rcases List.mem_cons.1 he with rfl | he
      · exact ⟨calm_of _ rfl rfl rfl, rfl, rfl, _, rfl, rfl⟩
      · cases List.mem_singleton.1 he; exact ⟨calm_of _ rfl rfl rfl, rfl, rfl, _, rfl, rfl⟩,
    rfl,
    ⟨busy .header (.string 0x1000) { saying 28 with speech := { (saying 28).speech with state := .gather, strRef := some 0x1000 } },
      calm_of _ rfl rfl rfl, rfl, busy_onBus .., rfl, rfl, _, rfl, fun w h => nomatch h⟩,
    ⟨busy .header (.string 0x1000)
        { sounding [.prompt, .cue] true { state := .gather, strRef := some 0x1000 } with engine := { state := .judging } },
      calm_of _ rfl rfl rfl, rfl, busy_onBus .., rfl, rfl, _, _, _, rfl, rfl⟩⟩

theorem witness_StringsAndPhrases_forms :
    1 ≤ (SpeechSettings.of {}).maxPhrase ∧ (SpeechSettings.of { handoff := true }).handoff = true
      ∧ ∃ c : SpeechSettings, 1 ≤ c.maxPhrase ∧ partForm [] 0 c (.word 0 false 5) = .replaced :=
  ⟨by decide, rfl, .of {}, by decide, rfl⟩

/-! ### What is issued -/

/-- A composer with these things waiting. -/
def composing (c : Speech) : State := { State.reset with speech := c }

theorem witness_NextAccesses :
    ((chained {} { access := .mirror }).lc.chain ≠ [] ∧ State.reset.lc.chain = [])
      ∧ (2 ∈ (trying { state := .prompting, words := [5, 2] }).engine.words
        ∧ ∀ x ∈ (trying { state := .prompting, words := [5, 2] }).engine.words, 2 ≤ x)
      ∧ (composing { doneWanted := true }).speech.recWrites = []
      ∧ (composing { strRef := some 0x1003 }).speech.doneWanted = false
      ∧ (∃ u us, (composing { state := .gather, planned := true, plan := [{ items := [.unit ⟨0, 1⟩] }] }).speech.unresolved = u :: us)
      ∧ (∃ off left segs, (composing { state := .fill, segs := [.sound 0x3001 4] }).speech.segs = .sound off left :: segs) :=
  ⟨⟨by decide, rfl⟩, by decide, rfl, rfl, ⟨_, _, rfl⟩, ⟨_, _, _, rfl⟩⟩

/-- RUN issues the first setup read, and a done read issued is that of the composer (R48, R184). -/
theorem witness_NextAccesses_issued :
    (∃ t q, step { State.reset with pending := [.run] } = .next t ∧ State.reset.port.waiting.get .lesson = none
        ∧ t.port.waiting.get .lesson = some q)
      ∧ ∃ t q, step { composing { record := { seq := 3, state := .requested } } with pending := [.nudge 0] } = .next t
        ∧ t.port.waiting.get .header = some q := ⟨⟨_, _, rfl, rfl, rfl⟩, _, _, rfl, rfl⟩

/-- A PAUSED lesson with REPROMPT frozen and RESTART running, and a nudge to come. -/
theorem witness_StepLeavesSettled : ∃ s t : State, s.settled ∧ s.clock.reprompt.state = .frozen ∧ s.clock.restart.state = .running
    ∧ (s.port.writeBlock = true → ∀ v rest, s.pending ≠ .windowWrite v :: rest) ∧ step s = .next t :=
  ⟨{ inLesson .paused with
      clock := { reprompt := { state := .frozen, left := 5 }, restart := { state := .running, left := 5 } }
      pending := [.nudge 0] }, _,
    ⟨⟨fun _ => ⟨fun h => absurd rfl h.1, fun _ => rfl⟩, fun h => absurd rfl h, fun h => absurd rfl h,
      fun _ => ⟨fun _ => rfl, fun h => absurd rfl h⟩⟩, fun _ r _ => by cases r <;> rfl, fun h => absurd h (by decide)⟩,
    rfl, rfl, fun h => absurd h (by decide), rfl⟩

end Sys2Proof.Tests
end

section
/-! The presentation choice (R51): what each of its cases asks of the slot and the review queue, what each makes of the
state, and that the outcome is one the Lesson Controller has nothing to begin in. -/
namespace Sys2Proof.Machine.Deck

/-! ### What the choice looks at -/

theorem slotReady_iff (w : Walker) : w.slotReady = true ↔
    (w.state = .hold ∧ w.slotHeld = true) ∧ ((∃ i, w.image = .word i) ∨ ∃ r, w.image = .say r) := by
  unfold Walker.slotReady
  cases w.image <;> simp

theorem slotEnd_iff (w : Walker) : w.slotEnd = true ↔
    (w.state = .hold ∧ w.slotHeld = true) ∧ w.image = .endCard := by
  simp [Walker.slotEnd]

theorem headDue_of_cons {l : Lc} {e : ReviewEntry} {rest : List ReviewEntry} (hq : l.queue = e :: rest)
    (h : e.due = 0) : l.headDue = true := by
  simp [Lc.headDue, hq, h]

theorem queue_ne_nil_of_headDue {l : Lc} (h : l.headDue = true) : l.queue ≠ [] := fun hq => by
  simp [Lc.headDue, hq] at h

theorem not_headDue {l : Lc} (h : ∀ e ∈ l.queue.head?, e.due ≠ 0) : l.headDue = false := by
  cases hq : l.queue with
  | nil => simp [Lc.headDue, hq]
  | cons e rest => simpa [Lc.headDue, hq] using h e (by simp [hq])

/-- A lesson the choice applies to shows WAITING or PRESENTING and is not closing (R51). -/
theorem choiceApplies_lesson {s : State} (h : s.choiceApplies = true) :
    s.lc.lesson = .waiting ∨ s.lc.lesson = .presenting := by
  simp only [State.choiceApplies, Bool.and_eq_true, Bool.or_eq_true, decide_eq_true_eq] at h
  obtain ⟨⟨⟨hl, -⟩, -⟩, -⟩ := h
  exact hl

/-! ### The five cases (R51) -/

section
variable {resumed : Bool} {s : State}

theorem choose_headDue (ha : s.choiceApplies = true) (hd : s.lc.headDue = true) :
    choose resumed s = presentReview s := by
  simp [choose, ha, hd]

theorem choose_slotReady (ha : s.choiceApplies = true) (hd : s.lc.headDue = false) (hr : s.walker.slotReady = true) :
    choose resumed s = presentSlot s := by
  simp [choose, ha, hd, hr]

theorem choose_drains (ha : s.choiceApplies = true) (hd : s.lc.headDue = false) (hr : s.walker.slotReady = false)
    (hq : s.lc.queue ≠ []) (hw : s.walker.slotEnd = true ∨ s.walker.deckWaiting = true) :
    choose resumed s = presentReview s := by
  simp [choose, ha, hd, hr, hq, hw]

theorem choose_ends (ha : s.choiceApplies = true) (hd : s.lc.headDue = false) (hr : s.walker.slotReady = false)
    (hq : s.lc.queue = []) (he : s.walker.slotEnd = true) : choose resumed s = closeEnded s := by
  simp [choose, ha, hd, hr, hq, he]

theorem choose_starves (ha : s.choiceApplies = true) (hd : s.lc.headDue = false) (hr : s.walker.slotReady = false)
    (hq : s.lc.queue = [] ∨ s.walker.deckWaiting = false) (he : s.walker.slotEnd = false) :
    choose resumed s = starve resumed s := by
  rcases hq with hq | hq <;> simp [choose, ha, hd, hr, hq, he]

end

/-! ### What a case makes of the state -/

/-- A card becomes current, with the review queue and the walker as the case leaves them (R54). -/
def presented (cur : Current) (queue : List ReviewEntry) (walker : Walker) (s : State) : State :=
  { s with
    lc := { s.lc with
      lesson := .presenting, current := some cur, queue := queue, active := s.walker.staged
      chain := s.lc.chain ++ [{ access := .header cur.card .active, after := .active },
        { access := .currentRef cur.card.ref }, { access := .mirror }] }
    audio := { s.audio with volume := s.walker.staged.volume }
    walker := walker }

theorem presentReview_cons {s : State} {e : ReviewEntry} {rest : List ReviewEntry} (hq : s.lc.queue = e :: rest) :
    presentReview s = presented { card := e.card, image := .word e.image, review := true } rest s.walker s := by
  simp only [presentReview, hq]
  rfl

theorem presentSlot_eq (s : State) :
    presentSlot s = presented { card := s.walker.card, image := s.walker.image, review := false } s.lc.queue
      { s.walker with state := .seekLink, slotHeld := false, image := .empty, body := [] } s := rfl

/-- The choice that finds nothing enters WAITING, with STARVED, unless the lesson was WAITING already (R51, R58). -/
theorem starve_eq (resumed : Bool) {s : State} (ha : s.choiceApplies = true) :
    starve resumed s = if resumed = true ∨ s.lc.lesson = .presenting then { s with
        lc := { s.lc with lesson := .waiting, pendMirror := true }
        port := { s.port with events := s.port.events ||| Event.starved.mask } }
      else s := by
  have hl : s.lc.lesson ≠ .waiting ↔ s.lc.lesson = .presenting := by
    rcases choiceApplies_lesson ha with h | h <;> simp [h]
  simp only [starve, hl]
  rfl

/-! ### The flush that begins closing (R59, R86, R189) -/

theorem cancelHandoff_engine (s : State) : (cancelHandoff s).engine = s.engine := by
  unfold cancelHandoff
  split <;> rfl

theorem flushSpeech_engine (s : State) : (flushSpeech s).engine = s.engine := by
  cases hq : s.speech.queue with
  | nil => simp [flushSpeech, hq]
  | cons u rest =>
    simp only [flushSpeech, hq, State.onSpeech_engine]
    split <;> split <;> simp [cancel, cancelHandoff_engine, discardReads, cutRamp]

theorem flushSpeech_queue (s : State) : (flushSpeech s).speech.queue = [] := by
  cases hq : s.speech.queue with
  | nil => simp [flushSpeech, hq]
  | cons u rest => simp only [flushSpeech, hq]; rfl

theorem endSpeech_engine (s : State) : (endSpeech s).engine = s.engine := flushSpeech_engine s
theorem endSpeech_queue (s : State) : (endSpeech s).speech.queue = [] := flushSpeech_queue s
theorem endSpeech_restart (s : State) : ((endSpeech s).clock.get .restart).state = .idle := rfl

theorem endSpeech_lc (s : State) : (endSpeech s).lc = s.lc := (congrArg State.lc (spoken_endSpeech s) :)
theorem endSpeech_walker (s : State) : (endSpeech s).walker = s.walker := (congrArg State.walker (spoken_endSpeech s) :)
theorem endSpeech_scanner (s : State) : (endSpeech s).scanner = s.scanner := (congrArg State.scanner (spoken_endSpeech s) :)
theorem endSpeech_events (s : State) : (endSpeech s).port.events = s.port.events :=
  congrArg (·.port.events) (spoken_endSpeech s)
theorem endSpeech_writeBlock (s : State) : (endSpeech s).port.writeBlock = s.port.writeBlock :=
  congrArg (·.port.writeBlock) (spoken_endSpeech s)

theorem flushAll_fifo (k : Scanner) : k.flushAll.fifo = [] := by
  simp only [Scanner.flushAll, Scanner.count]
  split <;> rfl

theorem closeEnded_walker (s : State) : (closeEnded s).walker = s.walker := endSpeech_walker _
theorem closeEnded_engine (s : State) : (closeEnded s).engine = s.engine := endSpeech_engine _
theorem closeEnded_events (s : State) : (closeEnded s).port.events = s.port.events := endSpeech_events _
theorem closeEnded_writeBlock (s : State) : (closeEnded s).port.writeBlock = s.port.writeBlock := endSpeech_writeBlock _
theorem closeEnded_queue (s : State) : (closeEnded s).speech.queue = [] := endSpeech_queue _
theorem closeEnded_restart (s : State) : ((closeEnded s).clock.get .restart).state = .idle := endSpeech_restart _

theorem closeEnded_fifo (s : State) : (closeEnded s).scanner.fifo = [] :=
  (congrArg Scanner.fifo (endSpeech_scanner _)).trans (flushAll_fifo s.scanner)

theorem closeEnded_lc (s : State) : (closeEnded s).lc = { s.lc with
    closing := .giveBack .ended
    chain := s.lc.chain ++ [{ access := .outcome s.walker.card.ref .ended },
      { access := .header s.walker.card .retired, after := .endCardRetired }] } := by
  simp only [closeEnded, beginClosing, State.onLc_lc, endSpeech_lc]
  rfl

/-! ### The choice leaves the Lesson Controller nothing to begin -/

/-- What a choice can do: nothing, present a card, end the lesson, or starve it. -/
theorem choose_cases (resumed : Bool) (s : State) :
    choose resumed s = s ∨ (∃ cur queue walker, choose resumed s = presented cur queue walker s) ∨
      choose resumed s = closeEnded s ∨ choose resumed s = starve resumed s := by
  have review : s.lc.queue ≠ [] → ∃ cur queue walker, presentReview s = presented cur queue walker s := fun hne => by
    cases hq : s.lc.queue with
    | nil => exact absurd hq hne
    | cons e rest => exact ⟨_, _, _, presentReview_cons hq⟩
  unfold choose
  split
  · exact .inl rfl
  split
  next hd => exact .inr (.inl (review (queue_ne_nil_of_headDue hd)))
  split
  · exact .inr (.inl ⟨_, _, _, presentSlot_eq s⟩)
  split
  next hw => exact .inr (.inl (review hw.1))
  split
  · exact .inr (.inr (.inl rfl))
  · exact .inr (.inr (.inr rfl))

theorem calm_starve (resumed : Bool) {s : State} (h : s.calm) : (starve resumed s).calm := by
  unfold starve
  split <;> exact h

theorem calm_choose (resumed : Bool) {s : State} (h : s.calm) : (choose resumed s).calm := by
  rcases choose_cases resumed s with hc | ⟨cur, queue, walker, hc⟩ | hc | hc <;> rw [hc]
  · exact h
  · exact ⟨h.1, .inl (by simp [presented])⟩
  · exact ⟨(closeEnded_writeBlock s).trans h.1, .inl (by simp [closeEnded_lc])⟩
  · exact calm_starve resumed h

theorem calm_walkerReport {s : State} (h : s.calm) : (walkerReport s).calm := by
  unfold walkerReport
  split
  · exact calm_choose false h
  · exact h

/-! ### O31 -/

/-- Settles O31, case by case of R51: each case of the statement picks the case of the choice, whose outcome is `presented`,
`closeEnded` or `starve`. -/
theorem choiceOfPresentation : Obligations.ChoiceOfPresentation := by
  intro resumed s ha t held ready atEnd presents
  have hready : ¬ ready → s.walker.slotReady = false := fun h => by
    simpa using mt (slotReady_iff s.walker).1 h
  have hend : atEnd ↔ s.walker.slotEnd = true := (slotEnd_iff s.walker).symm
  refine ⟨fun e rest hq hdue => ?_, fun hdue => ?_⟩
  · exact (choose_headDue ha (headDue_of_cons hq hdue)).trans (presentReview_cons hq)
  have hd := not_headDue hdue
  refine ⟨fun hr => ?ready, fun hr e rest hq hw => ?drain, fun hr hq he => ?ends, fun hr hq he => ?starve⟩
  case ready => exact (choose_slotReady ha hd ((slotReady_iff s.walker).2 hr)).trans (presentSlot_eq s)
  case drain =>
    exact (choose_drains ha hd (hready hr) (by simp [hq]) (hw.imp_left hend.1)).trans (presentReview_cons hq)
  case ends =>
    have ht : t = closeEnded s := choose_ends ha hd (hready hr) hq (hend.1 he)
    rw [ht]
    exact ⟨closeEnded_walker s, closeEnded_fifo s, closeEnded_queue s, closeEnded_restart s, closeEnded_engine s,
      closeEnded_events s, closeEnded_lc s⟩
  case starve =>
    have he' : s.walker.slotEnd = false := by simpa using mt hend.2 he
    exact (choose_starves ha hd (hready hr) hq he').trans (starve_eq resumed ha)

end Sys2Proof.Machine.Deck
end

section
/-! Commands that end in settling (R15, R85): what a settled calm state keeps, and the setup check (R49). -/
namespace Sys2Proof.Machine.Deck

/-! ### What settling a calm state keeps -/

section
variable {s : State} (h : s.calm)
include h

theorem settle_lc : (settle s).lc = s.lc := (congrArg State.lc (bare_settle s h) :)
theorem settle_walker : (settle s).walker = s.walker := (congrArg State.walker (bare_settle s h) :)
theorem settle_events : (settle s).port.events = s.port.events := congrArg (·.port.events) (bare_settle s h)
theorem settle_fault : (settle s).port.fault = s.port.fault := congrArg (·.port.fault) (bare_settle s h)

theorem settle_contextStaged : (settle s).contextStaged = s.contextStaged := by
  simp only [State.contextStaged, settle_walker h, settle_lc h]

end

/-! ### The setup check (R49) -/

theorem exec_setupCheck (s : State) : exec .setupCheck s = execSetupCheck s := rfl

/-- SETUP_CHECK acts exactly when the lesson is STARTING, not closing, and no starting write is to come (R49). -/
theorem startComplete_iff (s : State) : s.startComplete = true ↔
    s.lc.lesson = .starting ∧ s.lc.closing = .clear ∧ s.lc.started = true ∧ s.lc.chain = [] ∧
      s.scanner.starting = [] ∧ s.speech.starting = [] := by
  simp [State.startComplete, Lc.isClosing, and_assoc]

theorem setupCheck_early {s : State} (h : s.startComplete = false) : exec .setupCheck s = .next s := by
  simp [exec_setupCheck, execSetupCheck, h]

theorem setupCheck_due {s : State} (h : s.startComplete = true) :
    exec .setupCheck s = .next (settle (setupChecked s)) := by
  simp [exec_setupCheck, execSetupCheck, h]

/-- A deck head passes the check when it is 0 or a valid card reference (R2, R49). -/
theorem badDeckHead_iff (v : Word) : v ≠ 0 ∧ validCardRef v = false ↔
    ¬ (v = 0 ∨ (v.toNat % 4 = 0 ∧ v.toNat ≤ 0x3FF00)) := by
  have h0 : v = 0 ↔ v.toNat = 0 := BitVec.toNat_inj.symm
  simp only [validCardRef, h0, ne_eq, Bool.and_eq_false_iff, decide_eq_false_iff_not, beq_eq_false_iff_ne]
  omega

theorem setupChecked_noBank {s : State} (hb : (s.audio.directory.getD 0 {}).present = false) :
    setupChecked s = enterFaulted .noBank 0 0 s := by
  simp only [setupChecked, hb]
  rfl

theorem setupChecked_badSetup {s : State} (hb : (s.audio.directory.getD 0 {}).present = true)
    (hh : s.lc.deckHead ≠ 0 ∧ validCardRef s.lc.deckHead = false) :
    setupChecked s = enterFaulted .badSetup 0 s.lc.deckHead s := by
  simp only [setupChecked, hb, if_pos hh]
  rfl

/-- The lesson opens: WAITING with STARVED set, and the walker seeking from the deck head (R27, R49). -/
def opened (s : State) : State :=
  walkerStart (touchMirror (setEvent .starved (s.onLc fun l => { l with lesson := .waiting })))

theorem opened_lc (s : State) : (opened s).lc = { s.lc with lesson := .waiting, pendMirror := true } := rfl
theorem opened_endUnderWay (s : State) : (opened s).endUnderWay = s.endUnderWay := rfl

theorem calm_opened {s : State} (hw : s.port.writeBlock = false) (he : s.endUnderWay = false)
    (hcl : s.lc.closing = .clear) : (opened s).calm := ⟨hw, .inr ⟨he, hcl⟩⟩

/-- With no card held the choice after the check finds nothing more to do (R51). -/
theorem choose_opened {s : State} (hcl : s.lc.closing = .clear) (he : s.endUnderWay = false) (hc : s.lc.current = none)
    (hq : s.lc.queue = []) : choose false (opened s) = opened s := by
  have ha : (opened s).choiceApplies = true := by
    simp [State.choiceApplies, opened_lc, opened_endUnderWay, Lc.isClosing, hcl, he, hc]
  have hd : (opened s).lc.headDue = false := not_headDue (by simp [opened_lc, hq])
  exact choose_starves ha hd rfl (.inr rfl) rfl

theorem setupChecked_opens {s : State} (hb : (s.audio.directory.getD 0 {}).present = true)
    (hh : ¬ (s.lc.deckHead ≠ 0 ∧ validCardRef s.lc.deckHead = false)) :
    setupChecked s = choose false (opened s) := by
  simp only [setupChecked, hb, if_neg hh]
  rfl

/-- The fault record is to be written, so the Lesson Controller has a chain to go on with (R10, R49). -/
theorem calm_enterFaulted {s : State} (code : FaultCode) (ref detail : Word) (hw : s.port.writeBlock = false) :
    (enterFaulted code ref detail s).calm :=
  ⟨hw, .inl (by simp [enterFaulted, Lc.append])⟩

/-! ### O23 -/

/-- What the check leaves in a lesson it faults: the code with its detail, FAULT not yet set, and the fault record to be
written before the mirror (R10, R49). -/
def FaultedWith (s t : State) (code : FaultCode) (detail : Word) : Prop :=
  t.lc.lesson = .faulted ∧ t.port.fault = code ∧ t.lc.faultCode = code ∧ t.lc.faultRef = 0 ∧
    t.lc.faultDetail = detail ∧ t.port.events = s.port.events ∧ t.walker.state = .off ∧
    t.lc.chain = [{ access := .faultWord 0 (BitVec.ofNat 32 code.code) }, { access := .faultWord 1 0 },
      { access := .faultWord 2 detail, after := .faultWritten }, { access := .mirror }]

theorem faultedWith_enterFaulted {s : State} (code : FaultCode) (detail : Word) (hch : s.lc.chain = [])
    (hw : s.port.writeBlock = false) : FaultedWith s (settle (enterFaulted code 0 detail s)) code detail := by
  have hcalm := calm_enterFaulted code 0 detail hw
  unfold FaultedWith
  rw [settle_lc hcalm, settle_walker hcalm, settle_events hcalm, settle_fault hcalm]
  refine ⟨rfl, rfl, rfl, rfl, rfl, rfl, rfl, ?_⟩
  simp [enterFaulted, Lc.append, hch]

/-- Settles O23: a check before the starting writes are complete does nothing; the check itself is one of
`setupChecked_noBank`, `setupChecked_badSetup` and `setupChecked_opens`. -/
theorem setupCheckOutcome : Obligations.SetupCheckOutcome := by
  intro s
  constructor
  · intro hearly
    cases hdue : s.startComplete with
    | false => exact setupCheck_early hdue
    | true =>
      obtain ⟨hl, -, hst, -, hks, hsc⟩ := (startComplete_iff s).1 hdue
      simp [hl, hst, hks, hsc] at hearly
  intro hl hcl hst hch hks hsc hw he hc hq h ok
  have hdue : s.startComplete = true := (startComplete_iff s).2 ⟨hl, hcl, hst, hch, hks, hsc⟩
  refine ⟨_, setupCheck_due hdue, fun hbad => ?_, fun hb hok => ?_⟩
  · show FaultedWith s _ _ _
    by_cases hb : (s.audio.directory.getD 0 {}).present = false
    · rw [if_pos hb, if_pos hb, setupChecked_noBank hb]
      exact faultedWith_enterFaulted _ _ hch hw
    · rw [if_neg hb, if_neg hb, setupChecked_badSetup (by simpa using hb)
        ((badDeckHead_iff h).2 (hbad.resolve_left hb))]
      exact faultedWith_enterFaulted _ _ hch hw
  · rw [setupChecked_opens hb (fun hh => (badDeckHead_iff h).1 hh hok), choose_opened hcl he hc hq,
      bare_settle _ (calm_opened hw he hcl)]
    rfl

end Sys2Proof.Machine.Deck
end

section
/-! The words of a card's body (R32): what each one that returns makes of the walker, what the last one's check makes of it
(R33, R37), and the card handed over at ABORT (R40). -/
namespace Sys2Proof.Machine.Deck

/-! ### Settling while cards are given back (R59) -/

theorem retime_writeBlock (s : State) : (retime s).port.writeBlock = s.port.writeBlock := rfl

theorem bare_settle_of_free {s : State} (h : (lcAdvance s).port.writeBlock = false) :
    (settle s).bare = (lcAdvance s).bare := by
  unfold settle
  rw [bare_issueAll _ ((retime_writeBlock _).trans h), bare_retime]

theorem discardAll_walker (s : State) : (discardAll s).walker = s.walker := rfl

theorem issueAll_walker (s : State) : (issueAll s).walker = s.walker := by
  cases hw : s.port.writeBlock with
  | false => exact (congrArg State.walker (bare_issueAll s hw) :)
  | true => simp only [issueAll, hw, if_true, discardAll_walker]

theorem startEndChain_walker (s : State) : (startEndChain s).walker = s.walker := by
  unfold startEndChain
  split
  · split <;> rfl
  · rfl

theorem giveBackNext_walker (why : CloseWhy) (s : State) : (giveBackNext why s).walker = s.walker := by
  unfold giveBackNext
  repeat' split
  all_goals rfl

theorem lcAdvance_walker {s : State} (h : s.lcQuiet ∨ ∃ why, s.lc.closing = .giveBack why) :
    (lcAdvance s).walker = s.walker := by
  obtain hq | ⟨why, hcl⟩ := h
  · rw [lcAdvance_of_quiet s hq]
  · unfold lcAdvance
    rw [hcl]
    split
    · rfl
    · split
      · exact startEndChain_walker s
      · exact giveBackNext_walker why s

/-- Settling leaves the walker alone where the Lesson Controller has nothing to begin or is giving cards back. -/
theorem settle_walker_of_givesBack {s : State} (h : s.lcQuiet ∨ ∃ why, s.lc.closing = .giveBack why) :
    (settle s).walker = s.walker :=
  (issueAll_walker _).trans (lcAdvance_walker h)

/-- With nothing else held, the slot card handed over is given back next (R40, R59). -/
theorem lcAdvance_givesBackSlot {s : State} (hcl : s.lc.closing = .giveBack .abort) (hch : s.lc.chain = [])
    (he : s.endUnderWay = false) (hc : s.lc.current = none) (hq : s.lc.queue = []) (hh : s.walker.handed = true)
    (hs : s.walker.slotHeld = true) (ho : s.walker.state ≠ .off) :
    lcAdvance s = s.onLc (·.append (giveBackItems s.walker.card)) := by
  have hn : s.walker.holdsNothing = false := by simp [Walker.holdsNothing, ho, hs]
  simp [lcAdvance, giveBackNext, hcl, hch, he, hc, hq, hn, hh]

theorem settle_givesBackSlot {s : State} (hw : s.port.writeBlock = false) (hcl : s.lc.closing = .giveBack .abort)
    (hch : s.lc.chain = []) (he : s.endUnderWay = false) (hc : s.lc.current = none) (hq : s.lc.queue = [])
    (hh : s.walker.handed = true) (hs : s.walker.slotHeld = true) (ho : s.walker.state ≠ .off) :
    (settle s).lc.chain = giveBackItems s.walker.card := by
  have hadv := lcAdvance_givesBackSlot hcl hch he hc hq hh hs ho
  have hbare : (settle s).bare = (lcAdvance s).bare := bare_settle_of_free (by rw [hadv]; exact hw)
  have hlc : (settle s).lc = (lcAdvance s).lc := (congrArg State.lc hbare :)
  rw [hlc, hadv]
  simp [Lc.append, hch]

/-! ### A body word returns (R32) -/

theorem exec_bodyReadReturn (v : Word) (s : State) : exec (.bodyReadReturn v) s = execBodyReadReturn v s := rfl

theorem bodyReadReturn_of_onBus {s : State} {off : Nat} (v : Word) (h : s.onBus .walker (.body off)) :
    exec (.bodyReadReturn v) s = .next (settle (bodyRead v (s.onPort Port.release))) := by
  obtain ⟨_, -, -, -, hc⟩ := complete_of_onBus (test := Access.isBody) (fun _ s => bodyRead v s) h rfl
  rw [exec_bodyReadReturn, execBodyReadReturn, hc]

/-- A body word joins the words copied. -/
def joinWord (v : Word) (s : State) : State := s.onWalker fun w => { w with body := w.body ++ [v] }

section
variable {v : Word} {s : State}

theorem bodyRead_aborting (h : s.walker.aborting = true) : bodyRead v s = s.onWalker Walker.handOver := by
  simp [bodyRead, h]

theorem bodyRead_more (h : s.walker.aborting = false) (hn : s.walker.body.length + 1 < bodyWords s.walker.card.kind) :
    bodyRead v s = joinWord v s := by
  simp [bodyRead, copyMore, h, hn, joinWord]

theorem bodyRead_last (h : s.walker.aborting = false) (hn : bodyWords s.walker.card.kind ≤ s.walker.body.length + 1) :
    bodyRead v s = checkCopied (joinWord v s) := by
  simp [bodyRead, copyMore, h, Nat.not_lt.2 hn, joinWord]

end

/-! ### The check of a copied card (R33) -/

section
variable {s : State}

theorem checkCopied_reject {d : Detail} (h : checkCard s.walker.card.kind (wordsBytes s.walker.body) = .reject d) :
    checkCopied s = s.onWalker (·.retireAs .rejected d false) := by
  simp [checkCopied, h]

theorem checkCopied_ready {img : Image}
    (h : checkCard s.walker.card.kind (wordsBytes s.walker.body) = .ready img) :
    checkCopied s = walkerReport (s.onWalker fun w => { w with state := .hold, image := img }) := by
  simp [checkCopied, h]

theorem checkCopied_merge (h : checkCard s.walker.card.kind (wordsBytes s.walker.body) = .merge) :
    checkCopied s = mergeStaged s := by
  simp [checkCopied, h]

end

/-- The merge into the staged context, less the mirror it may request (R37). -/
def mergedContext (s : State) : State :=
  s.onWalker fun w =>
    { w with staged := (mergeContext s.audio.directory w.staged (wordsBytes w.body)).1 }.retireAs .applied .noDetail
      (mergeContext s.audio.directory w.staged (wordsBytes w.body)).2

/-- A merge requests the mirror exactly when context staged changes (R5, R36). -/
theorem mergeStaged_eq (s : State) : mergeStaged s = (mergedContext s).onLc fun l =>
    { l with pendMirror := l.pendMirror || (mergedContext s).contextStaged != s.contextStaged } := by
  have hm : mergeStaged s = if (mergedContext s).contextStaged = s.contextStaged then mergedContext s
    else touchMirror (mergedContext s) := rfl
  rw [hm]
  split
  case isTrue h => simp [h, State.onLc]
  case isFalse h => simp [bne_iff_ne.2 h, touchMirror]

/-! ### O26 -/

/-- Settles O26: `bodyRead_aborting`, `bodyRead_more` and `bodyRead_last` say what the word does, the last by the case of
the card's check, and settling keeps the bare state, or under an ABORT the walker. -/
theorem bodyReadCopies : Obligations.BodyReadCopies := by
  intro off v s hbus base w n bytes
  let r := s.onPort Port.release
  refine ⟨_, bodyReadReturn_of_onBus v hbus, fun ha hlc => ?abort, fun ha hcalm hn => ?more, fun ha hcalm hn => ?last⟩
  case abort =>
    rw [bodyRead_aborting (s := r) ha]
    have hwalker : (settle (r.onWalker Walker.handOver)).walker = s.walker.handOver :=
      settle_walker_of_givesBack (hlc.imp_left And.right)
    exact ⟨hwalker, fun hw hcl hch he hc hq hs ho =>
      settle_givesBackSlot (s := r.onWalker Walker.handOver) hw hcl hch he hc hq rfl hs ho⟩
  case more =>
    rw [bodyRead_more (s := r) ha hn]
    exact bare_settle (joinWord v r) hcalm
  case last =>
    rw [bodyRead_last (s := r) ha hn]
    refine ⟨fun d hd => ?reject, fun img himg => ?ready, fun hm => ?merge⟩
    case reject =>
      rw [checkCopied_reject (s := joinWord v r) hd]
      exact bare_settle _ hcalm
    case ready =>
      rw [checkCopied_ready (s := joinWord v r) himg]
      exact bare_settle _ (calm_walkerReport hcalm)
    case merge =>
      have hcalm' : (mergeStaged (joinWord v r)).calm := by
        rw [mergeStaged_eq]
        exact hcalm
      have hstaged : (settle (mergeStaged (joinWord v r))).contextStaged = (mergedContext (joinWord v r)).contextStaged := by
        rw [settle_contextStaged hcalm', mergeStaged_eq]
        rfl
      intro m
      rw [checkCopied_merge (s := joinWord v r) hm, hstaged, bare_settle _ hcalm', mergeStaged_eq]
      rfl

end Sys2Proof.Machine.Deck
end

section
/-! What the scan pass, settling and a change of hush leave alone (R65, R85, R200), and what becomes of the utterance at the
head when hush is asserted (R186). -/
namespace Sys2Proof.Machine.LessonClock

/-! ### The scan pass (R65) -/

/-- A state without its key scanner. -/
def unscanned (s : State) : State := { s with scanner := {} }

theorem unscanned_routeKey (e : KeyEvent) (s : State) : unscanned (routeKey e s) = unscanned s := by
  unfold routeKey
  split <;> rfl

theorem unscanned_classifyKey (p : Nat) (time : Word) (s : State) : unscanned (classifyKey p time s) = unscanned s := by
  unfold classifyKey
  dsimp only
  split
  · exact unscanned_routeKey _ s
  · rfl

theorem unscanned_acceptDown (p : Nat) (time : Word) (s : State) : unscanned (acceptDown p time s) = unscanned s := by
  unfold acceptDown
  dsimp only
  split
  · rfl
  · exact unscanned_classifyKey p time s

theorem unscanned_samplePosition (time : Word) (p : Nat) (down : Bool) (s : State) :
    unscanned (samplePosition time p down s) = unscanned s := by
  unfold samplePosition
  dsimp only
  split
  case h_3 =>
    split
    · exact unscanned_acceptDown p _ s
    · rfl
  case h_8 => split <;> rfl
  all_goals rfl

/-- A scan pass touches the key scanner alone. -/
theorem unscanned_scanPass (time : Word) (keys : BitVec 64) (s : State) :
    unscanned (scanPass time keys s) = unscanned s := by
  unfold scanPass
  generalize List.range 64 = positions
  induction positions generalizing s with
  | nil => rfl
  | cons p ps ih => exact (ih _).trans (unscanned_samplePosition time p _ s)

theorem scanPass_eq (time : Word) (keys : BitVec 64) (s : State) :
    ∃ k, scanPass time keys s = { s with scanner := k } := by
  have h := unscanned_scanPass time keys s
  generalize scanPass time keys s = t at h
  exact ⟨t.scanner, (congrArg (fun w : State => { w with scanner := t.scanner }) h :)⟩

/-! ### Timers (R83, R85) -/

theorem retime_expired (t : Timer) (runs : Bool) : (t.retime runs).expired = t.expired := by
  unfold Timer.retime
  split <;> rfl

theorem retime_idle {t : Timer} (h : t.state = .idle) (runs : Bool) : t.retime runs = t := by
  simp [Timer.retime, h]

/-- A RUNNING timer with 1 ms left expires at the step; any other keeps its expiry, and has lost 1 ms if it was RUNNING. -/
theorem tick_retime (t : Timer) (runs : Bool) :
    if t.state = .running ∧ t.left ≤ 1
      then (t.tick.retime runs).state = .idle ∧ (t.tick.retime runs).left = 0 ∧ (t.tick.retime runs).expired = true
      else (t.tick.retime runs).expired = t.expired ∧
        (t.tick.retime runs).left = t.left - if t.state = .running then 1 else 0 := by
  rw [Timer.retime_left, retime_expired]
  cases hs : t.state
  case running =>
    by_cases hl : t.left ≤ 1
    · have ht : t.tick = { state := .idle, left := 0, expired := true, stale := false } := by simp [Timer.tick, hs, hl]
      simp [ht, hl, retime_idle]
    · have ht : t.tick = { t with left := t.left - 1 } := by simp [Timer.tick, hs, hl]
      simp [ht, hl]
  all_goals
    have ht : t.tick = t := by simp [Timer.tick, hs]
    simp [ht]

/-! ### Settling -/

/-- A state without what the Lesson Controller's going on can change: its registers, the walker, and at the port the events
and the counts of presentation ends (R45, R56). -/
def unled (s : State) : State :=
  { s with port := { s.port with events := 0, coalesce := 0, ended := 0 }, walker := {}, lc := {} }

theorem unled_startEndChain (s : State) : unled (startEndChain s) = unled s := by
  unfold startEndChain
  split
  · split <;> rfl
  · rfl

theorem unled_giveBackNext (why : CloseWhy) (s : State) : unled (giveBackNext why s) = unled s := by
  unfold giveBackNext
  repeat' split
  all_goals rfl

theorem unled_enterEnded (s : State) : unled (enterEnded s) = unled s := by
  unfold enterEnded coalesceEnded
  dsimp only
  split <;> rfl

theorem unled_copiesNext (why : CloseWhy) (s : State) : unled (copiesNext why s) = unled s := by
  unfold copiesNext
  split
  · rfl
  · split
    · rfl
    · exact unled_enterEnded s
  · split <;> rfl

theorem unled_lcAdvance (s : State) : unled (lcAdvance s) = unled s := by
  unfold lcAdvance
  split
  · rfl
  split
  · exact unled_startEndChain s
  split
  case h_2 => split <;> rfl
  case h_3 => exact unled_giveBackNext _ s
  case h_4 => exact unled_copiesNext _ s
  all_goals rfl

theorem busy_issueFor (r : Requester) (s : State) : (issueFor r s).port.busy = s.port.busy := by
  unfold issueFor
  split
  · split
    · rw [port_takeIssued]; rfl
    · rfl
  · rfl

theorem busy_issueAll (s : State) : (issueAll s).port.busy = s.port.busy := by
  unfold issueAll
  split
  · rfl
  · simp only [busy_issueFor]

section
variable (s : State)

theorem settle_busy : (settle s).port.busy = s.port.busy :=
  (busy_issueAll _).trans (congrArg (·.port.busy) (unled_lcAdvance s))

theorem issueAll_conditions : (issueAll s).clock = s.clock ∧ (issueAll s).audio = s.audio ∧
    (issueAll s).speech.queue = s.speech.queue ∧ (issueAll s).speech.record = s.speech.record := by
  have h := conditions_issueAll s
  simp only [State.conditions, Prod.mk.injEq] at h
  obtain ⟨hclock, -, haudio, hqueue, hrecord⟩ := h
  exact ⟨hclock, haudio, hqueue, hrecord⟩

theorem settle_audio : (settle s).audio = s.audio := by
  obtain ⟨-, haudio, -, -⟩ := issueAll_conditions (retime (lcAdvance s))
  exact haudio.trans (congrArg State.audio (unled_lcAdvance s) :)

theorem settle_queue : (settle s).speech.queue = s.speech.queue := by
  obtain ⟨-, -, hqueue, -⟩ := issueAll_conditions (retime (lcAdvance s))
  exact hqueue.trans (congrArg (·.speech.queue) (unled_lcAdvance s))

theorem settle_record : (settle s).speech.record = s.speech.record := by
  obtain ⟨-, -, -, hrecord⟩ := issueAll_conditions (retime (lcAdvance s))
  exact hrecord.trans (congrArg (·.speech.record) (unled_lcAdvance s))

theorem settle_hush : (settle s).hush = s.hush := congrArg Audio.hush (settle_audio s)

/-- Settling makes a timer follow its condition and does nothing else to it. -/
theorem settle_timer (n : TimerName) : ∃ runs, (settle s).clock.get n = (s.clock.get n).retime runs := by
  obtain ⟨hclock, -, -, -⟩ := issueAll_conditions (retime (lcAdvance s))
  have hadv : (lcAdvance s).clock = s.clock := (congrArg State.clock (unled_lcAdvance s) :)
  refine ⟨(lcAdvance s).runs n, ?_⟩
  rw [settle, hclock, ← hadv]
  cases n <;> rfl

theorem settle_timer_left (n : TimerName) : ((settle s).clock.get n).left = (s.clock.get n).left := by
  obtain ⟨runs, h⟩ := settle_timer s n
  rw [h, Timer.retime_left]

theorem settle_timer_idle {n : TimerName} (h : (s.clock.get n).state = .idle) :
    ((settle s).clock.get n).state = .idle := by
  obtain ⟨runs, ht⟩ := settle_timer s n
  rw [ht, retime_idle h, h]

theorem settle_engine (hw : s.port.writeBlock = false) : (settle s).engine = s.engine := by
  have hadv : (lcAdvance s).port.writeBlock = s.port.writeBlock := congrArg (·.port.writeBlock) (unled_lcAdvance s)
  have hbare : (settle s).bare = (lcAdvance s).bare := Deck.bare_settle_of_free (hadv.trans hw)
  exact (congrArg State.engine hbare :).trans (congrArg State.engine (unled_lcAdvance s) :)

/-- A RESTART armed while hush is on is frozen after settling (R85). -/
theorem settle_restart_frozen (hh : s.hush = true) (h : (s.clock.get .restart).state ≠ .idle) :
    ((settle s).clock.get .restart).state = .frozen := by
  obtain ⟨-, -, -, hfollow⟩ := (settled_settle s).1
  have harmed : ((settle s).clock.get .restart).state ≠ .idle := by
    obtain ⟨runs, ht⟩ := settle_timer s .restart
    rw [ht]
    cases hst : (s.clock.get .restart).state <;> cases runs <;> simp_all [Timer.retime]
  exact (hfollow harmed).2 (by rw [settle_hush, hh]; decide)

end

/-! ### A completion under hush (R168, R200) -/

/-- What a hush leaves alone once the hand-off is cancelled and reads are discarded. -/
structure Sustained where
  record : HandoffRecord
  handoffWait : Timer
  settle : Timer
  audio : Audio
  busy : Option BusAccess

/-- Those parts of a state. -/
def sustained (s : State) : Sustained :=
  { record := s.speech.record, handoffWait := s.clock.handoffWait, settle := s.clock.settle, audio := s.audio
    busy := s.port.busy }

theorem tryStart_of_hush {s : State} (h : s.hush = true) : tryStart s = s := by
  unfold tryStart
  split
  · simp [h]
  · rfl

theorem count_record (c : Speech) (k : ScCounter) (n : Nat) : (c.count k n).record = c.record := by
  unfold Speech.count
  cases k <;> (dsimp only; split <;> rfl)

theorem sustained_onSpeech {f : Speech → Speech} {s : State} (h : (f s.speech).record = s.speech.record) :
    sustained (s.onSpeech f) = sustained s := by
  simp [sustained, h]

theorem sustained_place (kind : UtteranceKind) (parts : List Part) {s : State} (h : s.hush = true) :
    sustained (place kind parts s).1 = sustained s := by
  unfold place
  split
  · exact sustained_onSpeech (count_record ..)
  split
  · exact sustained_onSpeech (count_record ..)
  next q lost _ =>
    have hput := sustained_onSpeech (s := s)
      (f := fun c => ({ c with
        queue := q ++ [{ seq := (s.speech.seq + 1) % 256, kind := kind, parts := parts, bank := s.lc.active.bank }]
        seq := (s.speech.seq + 1) % 256 } : Speech).count .echoDropped lost) (count_record ..)
    dsimp only
    split
    · exact (sustained_onSpeech rfl).trans hput
    · exact (congrArg sustained (tryStart_of_hush (s := s.onSpeech _) h)).trans hput

theorem cutPrompt_of_none {s : State} (h : s.engine.awaitPrompt = none) : cutPrompt s = s := by
  simp [cutPrompt, h]

theorem sustained_redraw (s : State) : sustained (redraw s) = sustained s := by
  unfold redraw beginRewrite
  repeat' split
  all_goals rfl

theorem sustained_startTry (n : Nat) {s : State} (h : s.hush = true) : sustained (startTry n s) = sustained s := by
  unfold startTry
  dsimp only
  refine (sustained_redraw _).trans ?_
  split
  · rfl
  · unfold placePrompt
    rw [cutPrompt_of_none rfl]
    exact sustained_place _ _ (s := s.onEngine _) h

/-- With hush on no utterance starts, so what a completion brings about stays with the engine, the Lesson Controller and
the queue. -/
theorem sustained_utteranceDone (seq : Nat) {s : State} (h : s.hush = true) :
    sustained (utteranceDone seq s) = sustained s := by
  unfold utteranceDone promptOver
  dsimp only
  split
  case h_1 => split <;> rfl
  case h_2 => split <;> rfl
  case h_3 => split <;> rfl
  case h_4 =>
    split
    · unfold feedbackDone
      split
      · rfl
      · exact sustained_startTry _ (s := s.onEngine _) h
    · rfl
  case h_5 => split <;> rfl
  all_goals rfl

/-! ### Hush asserted (R186) -/

/-- What a hush discards of the head's plan: all of it, or with `keep` all but the plan itself. -/
def discarded (keep : Bool) (c : Speech) : Speech := if keep then c.clearPhrase else c.clearPlan

/-- The composer holds this queue for replay, with so many echoes and cues lost. -/
def hold (keep : Bool) (q : List Utterance) (r : Replay) (lost : Nat) (s : State) : State :=
  s.onSpeech fun c => ((discarded keep c).holdQueue q r).count .echoDropped lost

/-- The state in which a hush finds the queue: reads discarded and a REQUESTED hand-off cancelled. -/
def halted (s : State) : State := cancelHandoff (discardReads s)

theorem discarded_phrasePlan (keep : Bool) (c : Speech) : (discarded keep c).phrasePlan = [] := by cases keep <;> rfl
theorem discarded_lookAhead (keep : Bool) (c : Speech) : (discarded keep c).lookAhead = [] := by cases keep <;> rfl
theorem discarded_record (keep : Bool) (c : Speech) : (discarded keep c).record = c.record := by cases keep <;> rfl
theorem discarded_echoDropped (keep : Bool) (c : Speech) : (discarded keep c).echoDropped = c.echoDropped := by
  cases keep <;> rfl

theorem holdQueue_nil (c : Speech) (r : Replay) : c.holdQueue [] r = ({ c with queue := [] } : Speech).goIdle := rfl

theorem holdQueue_ne (c : Speech) {q : List Utterance} (r : Replay) (h : q ≠ []) :
    c.holdQueue q r = ({ c with queue := q, replay := r } : Speech).display .hushed c.phrase c.last := by
  simp [Speech.holdQueue, h]

/-- ECHO_DROPPED advances, saturating at 65535, and nothing but its copy is touched (R181). -/
theorem count_echoDropped (c : Speech) (n : Nat) : ∃ v copies,
    c.count .echoDropped n = { c with echoDropped := v, pendCopies := copies } ∧
      v.toNat = min 65535 (c.echoDropped.toNat + n) := by
  have hlt := c.echoDropped.isLt
  by_cases h : n = 0 ∨ c.echoDropped = 65535
  · refine ⟨c.echoDropped, c.pendCopies, by simp only [Speech.count]; rw [if_pos h], ?_⟩
    rcases h with h | h
    · omega
    · rw [h]; simp
  · exact ⟨satAdd c.echoDropped n, addOnce .echoDropped c.pendCopies, by simp only [Speech.count]; rw [if_neg h],
      by simp only [satAdd, BitVec.toNat_ofNat]; omega⟩

section
variable (keep : Bool) (q : List Utterance) (r : Replay) (lost : Nat) (s : State)

theorem hold_queue : (hold keep q r lost s).speech.queue = q := by
  obtain ⟨v, copies, h, -⟩ := count_echoDropped ((discarded keep s.speech).holdQueue q r) lost
  simp only [hold, State.onSpeech_speech, h]
  by_cases hq : q = []
  · subst hq; rfl
  · rw [holdQueue_ne _ _ hq]; rfl

theorem hold_record : (hold keep q r lost s).speech.record = s.speech.record := by
  simp only [hold, State.onSpeech_speech, count_record]
  by_cases hq : q = []
  · subst hq; exact discarded_record keep s.speech
  · rw [holdQueue_ne _ _ hq]; exact discarded_record keep s.speech

theorem hold_echoDropped : (hold keep q r lost s).speech.echoDropped.toNat =
    min 65535 (s.speech.echoDropped.toNat + lost) := by
  obtain ⟨v, copies, h, hv⟩ := count_echoDropped ((discarded keep s.speech).holdQueue q r) lost
  have hc : ((discarded keep s.speech).holdQueue q r).echoDropped = s.speech.echoDropped := by
    by_cases hq : q = []
    · subst hq; exact discarded_echoDropped keep s.speech
    · rw [holdQueue_ne _ _ hq]; exact discarded_echoDropped keep s.speech
  simp only [hold, State.onSpeech_speech, h, hv, hc]

theorem hold_discards : (hold keep q r lost s).speech.phrasePlan = [] ∧ (hold keep q r lost s).speech.lookAhead = [] := by
  obtain ⟨v, copies, h, -⟩ := count_echoDropped ((discarded keep s.speech).holdQueue q r) lost
  simp only [hold, State.onSpeech_speech, h]
  by_cases hq : q = []
  · subst hq; exact ⟨rfl, rfl⟩
  · rw [holdQueue_ne _ _ hq]
    exact ⟨discarded_phrasePlan keep s.speech, discarded_lookAhead keep s.speech⟩

theorem hold_idle : (hold keep [] r lost s).speech.state = .idle := by
  obtain ⟨v, copies, h, -⟩ := count_echoDropped ((discarded keep s.speech).holdQueue [] r) lost
  simp only [hold, State.onSpeech_speech, h]
  rfl

variable {q}

theorem hold_hushed (hq : q ≠ []) :
    (hold keep q r lost s).speech.state = .hushed ∧ (hold keep q r lost s).speech.replay = r := by
  obtain ⟨v, copies, h, -⟩ := count_echoDropped ((discarded keep s.speech).holdQueue q r) lost
  simp only [hold, State.onSpeech_speech, h]
  rw [holdQueue_ne _ _ hq]
  exact ⟨rfl, rfl⟩

theorem hold_plan (hq : q ≠ []) : (hold true q r lost s).speech.plan = s.speech.plan := by
  obtain ⟨v, copies, h, -⟩ := count_echoDropped ((discarded true s.speech).holdQueue q r) lost
  simp only [hold, State.onSpeech_speech, h]
  rw [holdQueue_ne _ _ hq]
  rfl

end

theorem sustained_hold (keep : Bool) (q : List Utterance) (r : Replay) (lost : Nat) (s : State) :
    sustained (hold keep q r lost s) = sustained s := sustained_onSpeech (hold_record keep q r lost s)

theorem dropRestart_of_ne {s : State} (h : s.speech.queue ≠ []) : dropRestart s = s := by simp [dropRestart, h]

theorem dropRestart_of_nil {s : State} (h : s.speech.queue = []) : dropRestart s = cancel .restart s := by
  simp [dropRestart, h]

theorem sustained_dropRestart (s : State) : sustained (dropRestart s) = sustained s := by
  unfold dropRestart
  split <;> rfl

/-- The composer's registers at a hush, less those of its hand-off. -/
theorem halted_speech (s : State) : ∃ writes wanted pending,
    (halted s).speech = { s.speech with
      record := if s.speech.record.state = .requested then { s.speech.record with state := .cancelled } else s.speech.record
      recWrites := writes, doneWanted := wanted, donePending := pending } := by
  unfold halted cancelHandoff
  have hd : (discardReads s).speech = s.speech := rfl
  rw [hd]
  split
  · exact ⟨_, _, _, rfl⟩
  · exact ⟨_, _, _, rfl⟩

section
variable {s : State} {u : Utterance} {us : List Utterance} (hq : s.speech.queue = u :: us)
include hq

/-- An ECHO or CUE at the head leaves the queue. -/
theorem hushAsserted_brief (hb : u.brief = true) : hushAsserted s =
    dropRestart (hold false (us.filter (!·.loose)) .start (us.countP Utterance.loose + 1) (halted s)) := by
  simp only [hushAsserted, hq, hb, if_true]
  rfl

/-- A head not yet started is held for replay from its start. -/
theorem hushAsserted_queued (hb : u.brief = false) (hp : u.playing = false) : hushAsserted s =
    dropRestart (hold false (u :: us.filter (!·.loose)) .start (us.countP Utterance.loose) (halted s)) := by
  simp only [hushAsserted, hq, hb, hp, if_true]
  rfl

/-- A PLAYING head is held for replay from its point of replay. -/
theorem hushAsserted_playing {r : Replay} (hb : u.brief = false) (hp : u.playing = true)
    (hr : s.speech.replayPoint = some r) : hushAsserted s =
    dropRestart (hold s.speech.planned (u :: us.filter (!·.loose)) r (us.countP Utterance.loose) (halted s)) := by
  obtain ⟨writes, wanted, pending, hs⟩ := halted_speech s
  have hr' : (halted s).speech.replayPoint = some r := by rw [hs]; exact hr
  have hpl : (halted s).speech.planned = s.speech.planned := by rw [hs]
  rw [dropRestart_of_ne (by simp [hold_queue]), ← hpl]
  simp only [hushAsserted, hq, hb, hp]
  change (match (halted s).speech.replayPoint with | some _ => _ | none => _) = _
  rw [hr']
  rfl

/-- A PLAYING head with nothing left to replay completes. -/
theorem hushAsserted_over (hb : u.brief = false) (hp : u.playing = true) (hr : s.speech.replayPoint = none) :
    hushAsserted s =
      utteranceDone u.seq (hold false (us.filter (!·.loose)) .start (us.countP Utterance.loose) (halted s)) := by
  obtain ⟨writes, wanted, pending, hs⟩ := halted_speech s
  have hr' : (halted s).speech.replayPoint = none := by rw [hs]; exact hr
  simp only [hushAsserted, hq, hb, hp]
  change (match (halted s).speech.replayPoint with | some _ => _ | none => _) = _
  rw [hr']
  rfl

/-- Whatever becomes of the head, a hush holds a queue and may drop RESTART, or completes the head. -/
theorem hushAsserted_cases : ∃ keep q r lost,
    hushAsserted s = dropRestart (hold keep q r lost (halted s)) ∨
      hushAsserted s = utteranceDone u.seq (hold keep q r lost (halted s)) := by
  cases hb : u.brief
  case true => exact ⟨_, _, _, _, .inl (hushAsserted_brief hq hb)⟩
  cases hp : u.playing
  case false => exact ⟨_, _, _, _, .inl (hushAsserted_queued hq hb hp)⟩
  cases hr : s.speech.replayPoint with
  | some r => exact ⟨_, _, _, _, .inl (hushAsserted_playing hq hb hp hr)⟩
  | none => exact ⟨_, _, _, _, .inr (hushAsserted_over hq hb hp hr)⟩

end

theorem halted_audio (s : State) : (halted s).audio = s.audio := by
  unfold halted cancelHandoff
  split <;> rfl

theorem halted_hush (s : State) : (halted s).hush = s.hush := congrArg Audio.hush (halted_audio s)

theorem sustained_hushAsserted {s : State} {u : Utterance} {us : List Utterance} (hq : s.speech.queue = u :: us)
    (hh : s.hush = true) : sustained (hushAsserted s) = sustained (halted s) := by
  obtain ⟨keep, q, r, lost, h | h⟩ := hushAsserted_cases hq
  · rw [h, sustained_dropRestart, sustained_hold]
  · have hhold : (hold keep q r lost (halted s)).hush = true := (halted_hush s).trans hh
    rw [h, sustained_utteranceDone _ hhold, sustained_hold]

/-! ### A change of effective hush (R200) -/

theorem hushChanged_same {before : Bool} {s : State} (h : s.hush = before) : hushChanged before s = s := by
  simp [hushChanged, h]

theorem hushChanged_on {s : State} (h : s.hush = true) :
    hushChanged false s = hushAsserted (hushRamp (touchMirror (setEvent .hush s))) := by
  have h' : (touchMirror (setEvent .hush s)).hush = true := h
  simp [hushChanged, h, h']

theorem hushChanged_off {s : State} (h : s.hush = false) :
    hushChanged true s = hushReleased (touchMirror (setEvent .hush s)) := by
  have h' : (touchMirror (setEvent .hush s)).hush = false := h
  simp [hushChanged, h, h']

theorem fixed_hushChanged (before : Bool) (s : State) : (hushChanged before s).fixed = s.fixed := by
  unfold hushChanged
  split
  · rfl
  · dsimp only
    split <;> simp

theorem hush_of_fixed {s t : State} (h : s.fixed = t.fixed) : s.hush = t.hush := by
  have hf : s.audio.filter = t.audio.filter := (congrArg Fixed.filter h :)
  have hs : s.audio.softHush = t.audio.softHush := (congrArg Fixed.softHush h :)
  simp [State.hush, Audio.hush, hf, hs]

theorem settleTimer_halted (s : State) : (halted s).clock.settle = s.clock.settle := by
  unfold halted cancelHandoff
  split <;> rfl

theorem settleTimer_hushAsserted {s : State} (hh : s.hush = true) : (hushAsserted s).clock.settle = s.clock.settle := by
  cases hq : s.speech.queue with
  | nil => simp [hushAsserted, hq]
  | cons u us => exact (congrArg Sustained.settle (sustained_hushAsserted hq hh) :).trans (settleTimer_halted s)

theorem settleTimer_hushReleased (s : State) : (hushReleased s).clock.settle = s.clock.settle := by
  unfold hushReleased
  split <;> rfl

/-- A change of hush leaves SETTLE alone (R85). -/
theorem settleTimer_hushChanged (before : Bool) (s : State) : (hushChanged before s).clock.settle = s.clock.settle := by
  by_cases hsame : s.hush = before
  · rw [hushChanged_same hsame]
  cases before with
  | false =>
    have hon : s.hush = true := by simpa using hsame
    rw [hushChanged_on hon]
    exact settleTimer_hushAsserted (s := hushRamp (touchMirror (setEvent .hush s))) hon
  | true =>
    rw [hushChanged_off (by simpa using hsame)]
    exact settleTimer_hushReleased _

end Sys2Proof.Machine.LessonClock
end

section
/-! The millisecond step (R79, R83, R85, R199): the clock, its timers and the filter. -/
namespace Sys2Proof.Machine.LessonClock

theorem exec_millisecondStep (keys : BitVec 64) (line : Bool) (s : State) :
    exec (.millisecondStep keys line) s = execMillisecondStep keys line s := rfl

/-- The state at the sampling of the HUSH line, with the scanner that the pass leaves: the clock has stepped (R65, R79). -/
def scanned (k : Scanner) (s : State) : State := tickClock (s.onScanner fun _ => k)

/-- The line's sample moves the filter by one (R199). -/
def filtered (line : Bool) (s : State) : State :=
  s.onAudio fun a => { a with filter := a.filter.sample a.hushFilt line }

/-- The filter's transition as R199 tables it. -/
theorem sample_eq (f : HushFilter) (filt : Nat) (line : Bool) : f.sample filt line = (match f, line with
    | .clear, true => if filt ≤ 1 then .hushed else .asserting 1
    | .clear, false => .clear
    | .asserting k, true => if filt ≤ k + 1 then .hushed else .asserting (k + 1)
    | .asserting _, false => .clear
    | .hushed, true => .hushed
    | .hushed, false => if filt ≤ 1 then .clear else .releasing 1
    | .releasing _, true => .hushed
    | .releasing k, false => if filt ≤ k + 1 then .clear else .releasing (k + 1)) := by
  cases f <;> cases line <;> rfl

/-- The state that a millisecond step settles. -/
def stepped (k : Scanner) (line : Bool) (s : State) : State := hushChanged s.hush (filtered line (scanned k s))

theorem millisecondStep_eq (keys : BitVec 64) (line : Bool) (s : State) :
    ∃ k, exec (.millisecondStep keys line) s = .next (settle (stepped k line s)) := by
  obtain ⟨k, hk⟩ := scanPass_eq s.clock.time keys s
  refine ⟨k, ?_⟩
  rw [exec_millisecondStep, execMillisecondStep, hk]
  rfl

section
variable (k : Scanner) (line : Bool) (s : State)

theorem scanned_timer (n : TimerName) : (scanned k s).clock.get n = (s.clock.get n).tick := by
  cases n <;> rfl

theorem stepped_fixed : (settle (stepped k line s)).fixed = (filtered line (scanned k s)).fixed :=
  (fixed_settle _).trans (fixed_hushChanged _ _)

theorem stepped_time : (settle (stepped k line s)).clock.time = s.clock.time + 1 :=
  (congrArg Fixed.time (stepped_fixed k line s) :)

theorem stepped_filter : (settle (stepped k line s)).audio.filter = s.audio.filter.sample s.audio.hushFilt line :=
  (congrArg Fixed.filter (stepped_fixed k line s) :)

variable {k line s}

/-- A timer is the ticked one where hush does not change, and SETTLE where it does too (R83, R85). -/
theorem stepped_timer {n : TimerName} (h : (settle (stepped k line s)).hush = s.hush ∨ n = .settle) :
    (stepped k line s).clock.get n = (s.clock.get n).tick := by
  rcases h with h | rfl
  · have hsame : (filtered line (scanned k s)).hush = s.hush := (hush_of_fixed (stepped_fixed k line s)).symm.trans h
    rw [stepped, hushChanged_same hsame]
    exact scanned_timer k s n
  · exact settleTimer_hushChanged s.hush (filtered line (scanned k s))

/-- With the line idle and the filter CLEAR only the scanner and the clock have moved. -/
theorem stepped_quiet (hline : line = false) (hclear : s.audio.filter = .clear) : stepped k line s = scanned k s := by
  have hfilter : filtered line (scanned k s) = scanned k s := by
    have haudio : ({ s.audio with filter := s.audio.filter.sample s.audio.hushFilt line } : Audio) = s.audio := by
      rw [hline, hclear, HushFilter.sample, ← hclear]
    exact congrArg (fun a => { scanned k s with audio := a }) haudio
  rw [stepped, hfilter]
  exact hushChanged_same rfl

end

/-! ### O14 -/

/-- Settles O14: the clock and the filter are what `scanned` and `filtered` make them, which hush and settling leave alone
(`stepped_fixed`); each timer is the ticked one (`stepped_timer`), which settling only freezes or sets running. -/
theorem millisecondStepCounts : Obligations.MillisecondStepCounts := by
  intro keys line s
  obtain ⟨k, hexec⟩ := millisecondStep_eq keys line s
  refine ⟨_, hexec, stepped_time k line s, (stepped_filter k line s).trans (sample_eq ..), (settled_settle _).1,
    fun hline hclear hcalm => ?quiet, fun n h => ?timers⟩
  case quiet =>
    rw [stepped_quiet hline hclear]
    have hbare : (settle (scanned k s)).bare = (scanned k s).bare := bare_settle _ hcalm
    exact ⟨(congrArg State.walker hbare :), (congrArg State.engine hbare :), (congrArg State.unit hbare :),
      (congrArg State.line hbare :), (congrArg State.audio hbare :), (congrArg State.lc hbare :),
      (congrArg State.speech hbare :), congrArg (·.port.events) hbare⟩
  case timers =>
    obtain ⟨runs, ht⟩ := settle_timer (stepped k line s) n
    rw [ht, stepped_timer h]
    exact tick_retime _ runs

end Sys2Proof.Machine.LessonClock
end

section
/-! Hush and the utterance at the head (R186, R187): what is held, dropped and discarded at HUSH_SET, and RESTART at
HUSH_CLEAR. -/
namespace Sys2Proof.Machine.LessonClock

/-! ### Reads and the hand-off at a hush (R169, R184, R185) -/

/-- The access in progress is one whose data is not wanted. -/
def Unwanted (p : Port) : Prop := ∃ d, p.busy = some d ∧ d.discard = true

theorem unwanted_discard {p : Port} (r : Requester) (h : Unwanted p) : Unwanted (p.discard r) := by
  obtain ⟨d, hd, hdiscard⟩ := h
  by_cases hr : d.requester = r
  · exact ⟨{ d with discard := true }, by simp [Port.discard, hd, hr], rfl⟩
  · exact ⟨d, by simp [Port.discard, hd, hr], hdiscard⟩

/-- A discard reaches the requester's access in progress. -/
theorem unwanted_discard_busy {p : Port} {b : BusAccess} (hb : p.busy = some b) : Unwanted (p.discard b.requester) :=
  ⟨{ b with discard := true }, by simp [Port.discard, hb], rfl⟩

theorem unwanted_dropDone {s : State} (h : Unwanted s.port) : Unwanted (dropDone s).port := by
  simp only [dropDone, State.onSpeech_port, State.onPort_port]
  split
  · exact unwanted_discard _ h
  · exact h

theorem unwanted_halted_of {s : State} (h : Unwanted (discardReads s).port) : Unwanted (halted s).port := by
  unfold halted cancelHandoff
  split
  · exact unwanted_dropDone h
  · exact h

theorem unwanted_halted_sample {s : State} {b : BusAccess} (hb : s.port.busy = some b) (hr : b.requester = .sample) :
    Unwanted (halted s).port := by
  refine unwanted_halted_of ?_
  simp only [discardReads, State.onPort_port]
  split
  · have hd : (s.port.discard .header).busy = some b := by simp [Port.discard, hb, hr]
    exact hr ▸ unwanted_discard_busy hd
  · exact hr ▸ unwanted_discard_busy hb

theorem unwanted_halted_header {s : State} {b : BusAccess} (hb : s.port.busy = some b) (ho : b.orphan = false)
    (hw : s.port.waiting.header = none) (ha : b.access.isHeaderRead = true) (hr : b.requester = .header) :
    Unwanted (halted s).port := by
  have hout : s.port.outstanding .header = some b.access := by
    simp [Port.outstanding, Waiting.get, hw, Port.onBus, hb, hr, ho]
  refine unwanted_halted_of ?_
  simp only [discardReads, State.onPort_port, hout, Option.any_some, ha, if_true]
  exact unwanted_discard _ (hr ▸ unwanted_discard_busy hb)

theorem halted_handoffWait {s : State} (h : s.speech.record.state = .requested) :
    (halted s).clock.handoffWait.state = .idle := by
  have hr : (discardReads s).speech.record.state = .requested := h
  simp only [halted, cancelHandoff, hr, if_true]
  rfl

theorem halted_engine (s : State) : (halted s).engine = s.engine := Deck.cancelHandoff_engine (discardReads s)

theorem spoken_halted (s : State) : (halted s).spoken = s.spoken := (spoken_cancelHandoff _).trans (spoken_discardReads s)

theorem halted_lc (s : State) : (halted s).lc = s.lc := (congrArg State.lc (spoken_halted s) :)

theorem halted_events (s : State) : (halted s).port.events = s.port.events := congrArg (·.port.events) (spoken_halted s)

theorem halted_writeBlock (s : State) : (halted s).port.writeBlock = s.port.writeBlock :=
  congrArg (·.port.writeBlock) (spoken_halted s)

theorem halted_restart (s : State) : (halted s).clock.restart = s.clock.restart := by
  unfold halted cancelHandoff
  split <;> rfl

/-! ### HUSH_SET with an utterance at the head (R186, R200) -/

/-- The state in which HUSH_SET reaches the composer: HUSH set, the mirror requested and the buffer ramped (R200, R201). -/
def muted (s : State) : State :=
  hushRamp (touchMirror (setEvent .hush ((showResult false s).onAudio fun a => { a with softHush := true })))

theorem muted_hush (s : State) : (muted s).hush = true := by simp [muted, State.hush, Audio.hush, hushRamp, touchMirror, setEvent]

theorem hushSet_eq {s : State} (h : s.hush = false) : exec .hushSet s = .next (settle (hushAsserted (muted s))) := by
  have hon : ((showResult false s).onAudio fun a => { a with softHush := true }).hush = true := by
    simp [State.hush, Audio.hush]
  have hbefore : (showResult false s).hush = false := h
  have hset : setSoftHush true (showResult false s) = hushAsserted (muted s) := by
    rw [setSoftHush, hbefore, hushChanged_on hon, muted]
  rw [← hset]
  rfl

/-- What HUSH_SET leaves where it holds a queue: R186's queue and point of replay, and so many echoes and cues counted;
RESTART keeps its time, frozen, or is IDLE with nothing left to replay. -/
def Held (s t : State) (q : List Utterance) (r : Replay) (count : Nat) : Prop :=
  t.speech.queue = q ∧ t.engine = s.engine ∧ t.lc = { s.lc with pendMirror := true } ∧
    t.port.events = s.port.events ||| Event.hush.mask ∧
    t.speech.echoDropped.toNat = min 65535 (s.speech.echoDropped.toNat + count) ∧
    t.speech.phrasePlan = [] ∧ t.speech.lookAhead = [] ∧
    (if q = [] then t.speech.state = .idle ∧ (t.clock.get .restart).state = .idle
      else t.speech.state = .hushed ∧ t.speech.replay = r ∧
        (t.clock.get .restart).left = (s.clock.get .restart).left ∧
        ((s.clock.get .restart).state ≠ .idle → (t.clock.get .restart).state = .frozen))

section
variable {s : State} (keep : Bool) (q : List Utterance) (r : Replay) (lost : Nat)

/-- The state in which HUSH_SET has held a queue. -/
def muffled (s : State) : State := dropRestart (hold keep q r lost (halted (muted s)))

theorem muffled_eq : ∃ restart, muffled keep q r lost s =
    (hold keep q r lost (halted (muted s))).onClock fun c => { c with restart := restart } := by
  unfold muffled dropRestart
  split
  · exact ⟨_, rfl⟩
  · exact ⟨(halted (muted s)).clock.restart, rfl⟩

theorem calm_muffled (h : s.calm) : (muffled keep q r lost s).calm := by
  obtain ⟨restart, hm⟩ := muffled_eq keep q r lost (s := s)
  have hlc : (muffled keep q r lost s).lc = { s.lc with pendMirror := true } := by
    rw [hm]; exact halted_lc (muted s)
  have hengine : (muffled keep q r lost s).engine = s.engine := by
    rw [hm]; exact halted_engine (muted s)
  refine ⟨by rw [hm]; exact (halted_writeBlock (muted s)).trans h.1, ?_⟩
  have hquiet := h.2
  simp only [State.lcQuiet, State.endUnderWay] at hquiet ⊢
  rw [hlc, hengine]
  exact hquiet

variable {q}

theorem muffled_of_ne (hq : q ≠ []) : muffled keep q r lost s = hold keep q r lost (halted (muted s)) :=
  dropRestart_of_ne (by rw [hold_queue]; exact hq)

variable (q)

theorem held_muffled (h : s.calm) : Held s (settle (muffled keep q r lost s)) q r lost := by
  obtain ⟨restart, hm⟩ := muffled_eq keep q r lost (s := s)
  have hcalm := calm_muffled keep q r lost h
  have hbare := bare_settle _ hcalm
  obtain ⟨writes, wanted, pending, hspeech⟩ := halted_speech (muted s)
  obtain ⟨hphrase, hahead⟩ := hold_discards keep q r lost (halted (muted s))
  have hdropped := hold_echoDropped keep q r lost (halted (muted s))
  rw [hspeech] at hdropped
  have hsp : (muffled keep q r lost s).speech = (hold keep q r lost (halted (muted s))).speech := by rw [hm]; rfl
  refine ⟨(settle_queue _).trans ?_, (settle_engine _ hcalm.1).trans ?_, (Deck.settle_lc hcalm).trans ?_,
    (Deck.settle_events hcalm).trans ?_, (congrArg (·.speech.echoDropped.toNat) hbare).trans ?_,
    (congrArg (·.speech.phrasePlan) hbare).trans ?_, (congrArg (·.speech.lookAhead) hbare).trans ?_, ?_⟩
  · rw [hsp]; exact hold_queue ..
  · rw [hm]; exact halted_engine (muted s)
  · rw [hm]; exact halted_lc (muted s)
  · rw [hm]; exact halted_events (muted s)
  · exact (congrArg (·.echoDropped.toNat) hsp).trans hdropped
  · exact (congrArg (·.phrasePlan) hsp).trans hphrase
  · exact (congrArg (·.lookAhead) hsp).trans hahead
  have hstate : (settle (muffled keep q r lost s)).speech.state = (hold keep q r lost (halted (muted s))).speech.state :=
    (congrArg (·.speech.state) hbare).trans (congrArg (·.state) hsp)
  have hreplay : (settle (muffled keep q r lost s)).speech.replay = (hold keep q r lost (halted (muted s))).speech.replay :=
    (congrArg (·.speech.replay) hbare).trans (congrArg (·.replay) hsp)
  split
  case isTrue hq =>
    subst hq
    refine ⟨hstate.trans (hold_idle ..), settle_timer_idle _ ?_⟩
    rw [muffled, dropRestart_of_nil (hold_queue ..)]
    rfl
  case isFalse hq =>
    obtain ⟨hhushed, hpoint⟩ := hold_hushed keep r lost (halted (muted s)) hq
    have hrestart : (muffled keep q r lost s).clock.get .restart = s.clock.get .restart := by
      rw [muffled_of_ne keep r lost hq]
      exact halted_restart (muted s)
    have hhush : (muffled keep q r lost s).hush = true := by
      rw [muffled_of_ne keep r lost hq]
      exact (halted_hush (muted s)).trans (muted_hush s)
    refine ⟨hstate.trans hhushed, hreplay.trans hpoint, ?_, fun hne => settle_restart_frozen _ hhush ?_⟩
    · rw [settle_timer_left, hrestart]
    · rw [hrestart]; exact hne

theorem plan_muffled (hq : q ≠ []) (h : s.calm) : (settle (muffled true q r lost s)).speech.plan = s.speech.plan := by
  obtain ⟨writes, wanted, pending, hspeech⟩ := halted_speech (muted s)
  refine (congrArg (·.speech.plan) (bare_settle _ (calm_muffled true q r lost h))).trans ?_
  rw [muffled_of_ne true r lost hq]
  refine (hold_plan r lost (halted (muted s)) hq).trans ?_
  rw [hspeech]
  rfl

end

/-! ### The prompt that completes at a hush (R94, R186) -/

theorem utteranceDone_prompting {s : State} {seq : Nat} (hs : s.engine.state = .prompting)
    (ha : s.engine.awaitPrompt = some seq) :
    utteranceDone seq s = promptDone (s.onEngine fun e => { e with awaitPrompt := none }) := by
  simp [utteranceDone, hs, ha]

theorem promptDone_awaitPrompt (s : State) : (promptDone s).engine.awaitPrompt = s.engine.awaitPrompt := by
  simp only [promptDone, enterListening, armReprompt, arm, State.onEngine_engine, State.onClock_engine]
  split <;> rfl

/-- A prompt whose completion is awaited leaves the queue at the hush, and the engine listens. -/
theorem listening_of_over {s : State} {seq : Nat} (rest : List Utterance) (lost : Nat) (hcalm : s.calm)
    (hs : s.engine.state = .prompting) (ha : s.engine.awaitPrompt = some seq) :
    let t := settle (utteranceDone seq (hold false rest .start lost (halted (muted s))))
    t.speech.queue = rest ∧ t.engine.state = .listening ∧ t.engine.awaitPrompt = none ∧
      (t.clock.get .reprompt).left = s.lc.active.reprompt := by
  let w := hold false rest .start lost (halted (muted s))
  have hengine : w.engine = s.engine := halted_engine (muted s)
  have hlc : w.lc.active = s.lc.active := congrArg (·.active) (halted_lc (muted s))
  have hdone := utteranceDone_prompting (s := w) (by rw [hengine]; exact hs) (by rw [hengine]; exact ha)
  have hwrite : (promptDone (w.onEngine fun e => { e with awaitPrompt := none })).port.writeBlock = false :=
    (halted_writeBlock (muted s)).trans hcalm.1
  intro t
  have ht : t = settle (promptDone (w.onEngine fun e => { e with awaitPrompt := none })) := congrArg settle hdone
  rw [ht, settle_engine _ hwrite, settle_queue, settle_timer_left, promptDone_awaitPrompt]
  exact ⟨hold_queue .., rfl, rfl, congrArg (·.reprompt) hlc⟩

/-! ### HUSH_CLEAR (R187) -/

/-- The state in which HUSH_CLEAR reaches the composer. -/
def unmuted (s : State) : State :=
  touchMirror (setEvent .hush ((showResult false s).onAudio fun a => { a with softHush := false }))

theorem hushClear_eq {s : State} (hs : s.audio.softHush = true) (hf : s.audio.filter.on = false) :
    exec .hushClear s = .next (settle (hushReleased (unmuted s))) := by
  have hoff : ((showResult false s).onAudio fun a => { a with softHush := false }).hush = false := by
    simp [State.hush, Audio.hush, showResult, hf]
  have hbefore : (showResult false s).hush = true := by simp [State.hush, Audio.hush, showResult, hs]
  have hset : setSoftHush false (showResult false s) = hushReleased (unmuted s) := by
    rw [setSoftHush, hbefore, hushChanged_off hoff, unmuted]
  rw [← hset]
  rfl

theorem calm_hushReleased {s : State} (h : s.calm) : (hushReleased s).calm := by
  unfold hushReleased
  split <;> exact h

/-- A release arms RESTART for a held utterance, unless it kept the time it was frozen with (R85). -/
theorem bare_hushReleased (s : State) : (hushReleased s).bare = State.bare { s with
    clock := { s.clock with restart :=
      if s.speech.state = .hushed ∧ s.clock.restart.state = .idle then
        { s.clock.restart with state := .running, left := 200, stale := s.clock.restart.expired }
      else s.clock.restart } } := by
  unfold hushReleased
  split
  · unfold arm
    cases s.runs .restart <;> rfl
  · rfl

/-! ### O54 -/

/-- The echoes and cues that a hush drops from behind the head. -/
theorem loose_eq : (fun v : Utterance => decide (v.playing = false ∧ (v.kind = .echo ∨ v.kind = .cue))) =
    Utterance.loose := by
  funext v
  simp [Utterance.loose]

theorem length_sub_filter (p : Utterance → Bool) (us : List Utterance) :
    us.length - (us.filter fun v => !p v).length = us.countP p := by
  have h := List.length_eq_countP_add_countP p (l := us)
  have hnot : us.countP (fun v => decide ¬ p v = true) = (us.filter fun v => !p v).length := by
    simp [List.countP_eq_length_filter]
  omega

theorem brief_iff (u : Utterance) : u.brief = true ↔ u.kind = .echo ∨ u.kind = .cue := by simp [Utterance.brief]

theorem brief_eq_false {u : Utterance} (h : u.kind ∉ [UtteranceKind.echo, .cue]) : u.brief = false := by
  simpa [Utterance.brief] using h

section
variable {s : State} {u : Utterance} {us : List Utterance} (hq : s.speech.queue = u :: us)
include hq

theorem sustained_muted : sustained (hushAsserted (muted s)) = sustained (halted (muted s)) :=
  sustained_hushAsserted (s := muted s) hq (muted_hush s)

/-- A REQUESTED hand-off is cancelled, and HANDOFF_WAIT with it (R185). -/
theorem handoff_cancelled : if s.speech.record.state = .requested
    then (settle (hushAsserted (muted s))).speech.record = { s.speech.record with state := .cancelled } ∧
      ((settle (hushAsserted (muted s))).clock.get .handoffWait).state = .idle
    else (settle (hushAsserted (muted s))).speech.record = s.speech.record := by
  obtain ⟨writes, wanted, pending, hspeech⟩ := halted_speech (muted s)
  have hrecord : (hushAsserted (muted s)).speech.record = if s.speech.record.state = .requested
      then { s.speech.record with state := .cancelled } else s.speech.record :=
    (congrArg Sustained.record (sustained_muted hq)).trans (congrArg Speech.record hspeech)
  rw [settle_record, hrecord]
  split
  case isTrue hr =>
    have hwait : (hushAsserted (muted s)).clock.handoffWait = (halted (muted s)).clock.handoffWait :=
      (congrArg Sustained.handoffWait (sustained_muted hq) :)
    refine ⟨rfl, settle_timer_idle _ (n := .handoffWait) ?_⟩
    exact (congrArg Timer.state hwait).trans (halted_handoffWait (s := muted s) hr)
  case isFalse => rfl

/-- The buffer is ramped and its end mark gone (R201). -/
theorem audio_ramped : (settle (hushAsserted (muted s))).audio.buffer = rampDown 16 s.audio.buffer ∧
    (settle (hushAsserted (muted s))).audio.mark = none := by
  have haudio : (hushAsserted (muted s)).audio = (halted (muted s)).audio :=
    (congrArg Sustained.audio (sustained_muted hq) :)
  rw [settle_audio, haudio, halted_audio]
  exact ⟨rfl, rfl⟩

/-- Reads discarded stay so (R180, R186). -/
theorem unwanted_settled (h : Unwanted (halted (muted s)).port) : Unwanted (settle (hushAsserted (muted s))).port := by
  have hbusy : (hushAsserted (muted s)).port.busy = (halted (muted s)).port.busy :=
    (congrArg Sustained.busy (sustained_muted hq) :)
  rw [Unwanted, settle_busy, hbusy]
  exact h

/-- A PLAYING prompt, feedback or SAY is held where its point of replay is, with its plan where that was complete. -/
theorem held_playing {r : Replay} (hcalm : s.calm) (hb : u.brief = false) (hp : u.playing = true)
    (hr : s.speech.replayPoint = some r) :
    Held s (settle (hushAsserted (muted s))) (u :: us.filter (!·.loose)) r (us.countP Utterance.loose) ∧
      (s.speech.planned = true → (settle (hushAsserted (muted s))).speech.plan = s.speech.plan) := by
  rw [hushAsserted_playing (s := muted s) hq hb hp hr]
  refine ⟨held_muffled s.speech.planned _ r _ hcalm, fun hplanned => ?_⟩
  change (settle (muffled s.speech.planned _ r _ s)).speech.plan = _
  rw [hplanned]
  exact plan_muffled _ r _ (by simp) hcalm

end

/-- Settles O54: `hushAsserted_brief`, `hushAsserted_queued`, `hushAsserted_playing` and `hushAsserted_over` say what becomes
of the head, `held_muffled` what settles of a queue held, and `bare_hushReleased` what a release arms. -/
theorem hushHoldsSpeech : Obligations.HushHoldsSpeech := by
  intro s hcalm
  refine ⟨fun u us hh hq => ⟨_, hushSet_eq hh, ?set⟩, fun hs hf => ⟨_, hushClear_eq hs hf, ?clear⟩⟩
  case clear =>
    rw [bare_settle _ (calm_hushReleased (s := unmuted s) hcalm), bare_hushReleased]
    rfl
  case set =>
    intro loose rest lost held
    have hrest : rest = us.filter (!·.loose) := by simp only [rest, loose, loose_eq]
    have hlost : lost = us.countP Utterance.loose := by simp only [lost, hrest]; exact length_sub_filter _ us
    clear_value rest lost
    subst hrest hlost
    refine ⟨handoff_cancelled hq, (audio_ramped hq).1, (audio_ramped hq).2, fun b hb ho hw => ⟨fun ha hr => ?_, fun hr => ?_⟩,
      fun hk => ?brief, fun hk hp => ?queued, fun hk hp => ?playing⟩
    · exact unwanted_settled hq (unwanted_halted_header (s := muted s) hb ho hw ha hr)
    · exact unwanted_settled hq (unwanted_halted_sample (s := muted s) hb hr)
    case brief =>
      show Held s _ _ _ _
      rw [hushAsserted_brief (s := muted s) hq ((brief_iff u).2 hk)]
      exact held_muffled false _ .start _ hcalm
    case queued =>
      show Held s _ _ _ _
      rw [hushAsserted_queued (s := muted s) hq (brief_eq_false hk) hp]
      exact held_muffled false _ .start _ hcalm
    case playing =>
      have hb := brief_eq_false hk
      have hplay : ∀ {r}, s.speech.replayPoint = some r → _ := fun hr => held_playing hq hcalm hb hp hr
      refine ⟨fun hst hpl => ?_, fun hst hpl => ?_, fun hst => ?_, fun hst hl => ?_, fun hst => ?_, fun hst hl he ha => ?_⟩
      · exact (hplay (by simp [Speech.replayPoint, hst, hpl])).1
      · obtain ⟨hheld, hplan⟩ := hplay (r := .phrase s.speech.phrase) (by simp [Speech.replayPoint, hst, hpl])
        exact ⟨hheld, hplan hpl⟩
      · refine hplay ?_
        simp only [List.mem_cons, List.not_mem_nil, or_false] at hst
        rcases hst with hst | hst | hst <;> simp [Speech.replayPoint, hst]
      · exact (hplay (by simp [Speech.replayPoint, hst, hl])).1
      · exact (hplay (by simp [Speech.replayPoint, hst])).1
      · rw [hushAsserted_over (s := muted s) hq hb hp (show s.speech.replayPoint = none by simp [Speech.replayPoint, hst, hl])]
        exact listening_of_over _ _ hcalm he ha

end Sys2Proof.Machine.LessonClock
end

section
/-! The Alignment Unit (chapter 7): what a table built row by row holds, the matched alternate, and the walk of the
traceback. -/
namespace Sys2Proof.Machine.Alignment

/-! ### Lists built entry by entry

A table's rows and a row's entries are each formed from those before them. -/

/-- The list of n values, each formed by f from those before it and its place. -/
def built {α : Type} (f : List α → Nat → α) (n : Nat) : List α :=
  (List.range n).foldl (fun l i => l ++ [f l i]) []

theorem built_succ {α : Type} (f : List α → Nat → α) (n : Nat) : built f (n + 1) = built f n ++ [f (built f n) n] := by
  simp [built, List.range_succ]

theorem length_built {α : Type} (f : List α → Nat → α) (n : Nat) : (built f n).length = n := by
  induction n with
  | zero => rfl
  | succ n ih => simp [built_succ, ih]

/-- However far the list goes, the value at a place is the one formed from those before it. -/
theorem getD_built {α : Type} (f : List α → Nat → α) (x : α) {i n : Nat} (h : i < n) :
    (built f n).getD i x = f (built f i) i := by
  induction n with
  | zero => omega
  | succ n ih =>
    rw [built_succ]
    rcases Nat.lt_succ_iff_lt_or_eq.1 h with hlt | rfl
    · rw [List.getD_eq_getElem?_getD, List.getElem?_append_left (Nat.lt_of_lt_of_eq hlt (length_built f n).symm),
        ← List.getD_eq_getElem?_getD, ih hlt]
    · rw [List.getD_eq_getElem?_getD, List.getElem?_append_right (Nat.le_of_eq (length_built f i)), length_built, Nat.sub_self]
      rfl

/-- A value inside a list does not depend on the default (the package's files stand without Mathlib). -/
theorem getD_of_lt {α : Type} (x : α) {l : List α} {i : Nat} (h : i < l.length) : l.getD i x = l[i] := by
  rw [List.getD_eq_getElem?_getD, List.getElem?_eq_getElem h, Option.getD_some]

/-! ### The entries of a distance table (R123, R124) -/

/-- What R123 puts at (i, j), from the rows above and the entries to the left. -/
def cell (a t : List Nat) (rows : List (List Nat)) (i : Nat) (row : List Nat) (j : Nat) : Nat :=
  if i = 0 then j else if j = 0 then i else tableEntry a t rows row i j

theorem tableRow_eq_built (a t : List Nat) (rows : List (List Nat)) (i : Nat) :
    tableRow a t rows i = built (cell a t rows i) (t.length + 1) := rfl

theorem distanceTable_eq_built (a t : List Nat) : distanceTable a t = built (tableRow a t) (a.length + 1) := rfl

/-- An entry of the table's first n rows is that of the whole table's. -/
theorem entry_built (a t : List Nat) {i j n : Nat} (hi : i < n) (hj : j ≤ t.length) :
    entry (built (tableRow a t) n) i j =
      cell a t (built (tableRow a t) i) i (built (cell a t (built (tableRow a t) i) i) j) j := by
  rw [entry, getD_built _ _ hi, tableRow_eq_built, getD_built _ _ (Nat.lt_succ_of_le hj)]

theorem swapOk_succ (a t : List Nat) (i j : Nat) : swapOk a t (i + 1) (j + 1) = true ↔
    1 ≤ i ∧ 1 ≤ j ∧ a.getD i 0 = t.getD (j - 1) 0 ∧ a.getD (i - 1) 0 = t.getD j 0 ∧ a.getD i 0 ≠ a.getD (i - 1) 0 := by
  simp [swapOk, letterAt, and_assoc]

theorem two_le_of_swapOk {a t : List Nat} {i j : Nat} (h : swapOk a t i j = true) : 2 ≤ i ∧ 2 ≤ j := by
  simp only [swapOk, Bool.and_eq_true, decide_eq_true_eq] at h
  obtain ⟨⟨⟨hij, -⟩, -⟩, -⟩ := h
  exact hij

section
variable {a t : List Nat}

theorem entry_zero_right {i : Nat} (hi : i ≤ a.length) : entry (distanceTable a t) i 0 = i := by
  rw [distanceTable_eq_built, entry_built a t (Nat.lt_succ_of_le hi) (Nat.zero_le _), cell]
  split
  next h => exact h.symm
  next => rfl

theorem entry_zero_left {j : Nat} (hj : j ≤ t.length) : entry (distanceTable a t) 0 j = j := by
  rw [distanceTable_eq_built, entry_built a t (Nat.succ_pos _) hj, cell, if_pos rfl]

/-- The least of extra, omission and diagonal at (i + 1, j + 1) (R123). -/
def leastAt (a t : List Nat) (i j : Nat) : Nat :=
  min (entry (distanceTable a t) i (j + 1) + 1) (min (entry (distanceTable a t) (i + 1) j + 1)
    (entry (distanceTable a t) i j + if a.getD i 0 = t.getD j 0 then 0 else 1))

/-- The recurrence of R123 and R124 inside the table. -/
theorem entry_succ {i j : Nat} (hi : i < a.length) (hj : j < t.length) :
    entry (distanceTable a t) (i + 1) (j + 1) = if swapOk a t (i + 1) (j + 1)
      then min (leastAt a t i j) (entry (distanceTable a t) (i - 1) (j - 1) + 1) else leastAt a t i j := by
  have above : ∀ {k l}, k ≤ i → l ≤ t.length →
      entry (built (tableRow a t) (i + 1)) k l = entry (distanceTable a t) k l := fun hk hl => by
    rw [distanceTable_eq_built, entry_built a t (by omega) hl, entry_built a t (by omega) hl]
  have left : (built (cell a t (built (tableRow a t) (i + 1)) (i + 1)) (j + 1)).getD j 0 =
      entry (distanceTable a t) (i + 1) j := by
    rw [distanceTable_eq_built, entry_built a t (by omega) (by omega), getD_built _ _ (by omega)]
  have here : entry (distanceTable a t) (i + 1) (j + 1) = tableEntry a t (built (tableRow a t) (i + 1))
      (built (cell a t (built (tableRow a t) (i + 1)) (i + 1)) (j + 1)) (i + 1) (j + 1) := by
    rw [distanceTable_eq_built, entry_built a t (by omega) (by omega), cell, if_neg (Nat.succ_ne_zero i),
      if_neg (Nat.succ_ne_zero j)]
  rw [here]
  simp only [tableEntry, Nat.add_sub_cancel, Nat.reduceSubDiff, left]
  rw [above (Nat.le_refl i) hj, above (Nat.le_refl i) (Nat.le_of_lt hj), above (Nat.sub_le i 1) (by omega)]
  rfl

/-- No entry is above that of the diagonal move. -/
theorem entry_succ_le {i j : Nat} (hi : i < a.length) (hj : j < t.length) :
    entry (distanceTable a t) (i + 1) (j + 1) ≤ entry (distanceTable a t) i j + if a.getD i 0 = t.getD j 0 then 0 else 1 := by
  rw [entry_succ hi hj, leastAt]
  split <;> omega

/-- Of the moves only the diagonal one over equal letters costs nothing. -/
theorem entry_succ_eq_zero {i j : Nat} (hi : i < a.length) (hj : j < t.length) :
    entry (distanceTable a t) (i + 1) (j + 1) = 0 ↔ entry (distanceTable a t) i j = 0 ∧ a.getD i 0 = t.getD j 0 := by
  rw [entry_succ hi hj, leastAt]
  split <;> split <;> omega

theorem entry_le_max {i j : Nat} (hi : i ≤ a.length) (hj : j ≤ t.length) : entry (distanceTable a t) i j ≤ max i j := by
  induction i generalizing j with
  | zero => rw [entry_zero_left hj]; omega
  | succ i ih =>
    cases j with
    | zero => rw [entry_zero_right hi]; omega
    | succ j =>
      have hdiagonal := entry_succ_le hi hj
      have hbefore := ih (Nat.le_of_succ_le hi) (Nat.le_of_succ_le hj)
      split at hdiagonal <;> omega

/-- An entry is 0 exactly where the letters up to it are the same on both sides. -/
theorem entry_eq_zero_iff {i j : Nat} (hi : i ≤ a.length) (hj : j ≤ t.length) :
    entry (distanceTable a t) i j = 0 ↔ a.take i = t.take j := by
  induction i generalizing j with
  | zero =>
    rw [entry_zero_left hj]
    cases j with
    | zero => simp
    | succ j =>
      have ht : t ≠ [] := List.ne_nil_of_length_pos (Nat.zero_lt_of_lt hj)
      simp [ht]
  | succ i ih =>
    cases j with
    | zero =>
      rw [entry_zero_right hi]
      have ha : a ≠ [] := List.ne_nil_of_length_pos (Nat.zero_lt_of_lt hi)
      simp [ha]
    | succ j =>
      rw [entry_succ_eq_zero hi hj, ih (Nat.le_of_succ_le hi) (Nat.le_of_succ_le hj),
        List.take_succ_eq_append_getElem hi, List.take_succ_eq_append_getElem hj,
        getD_of_lt 0 hi, getD_of_lt 0 hj, ← List.concat_eq_append,
        ← List.concat_eq_append, List.concat_inj]

end

theorem distance_eq_zero_iff (a t : List Nat) : distance a t = 0 ↔ a = t := by
  rw [distance, entry_eq_zero_iff (Nat.le_refl _) (Nat.le_refl _), List.take_length, List.take_length]

theorem distance_le_max (a t : List Nat) : distance a t ≤ max a.length t.length :=
  entry_le_max (Nat.le_refl _) (Nat.le_refl _)

/-! ### The matched alternate (R125) -/

/-- Place i holds the least of the distances, those before it being greater. -/
def FirstLeast (ds : List Nat) (i : Nat) : Prop :=
  i < ds.length ∧ (∀ d ∈ ds, ds.getD i 0 ≤ d) ∧ ∀ k < i, ds.getD i 0 < ds.getD k 0

theorem firstLeast_zero {d : Nat} {ds : List Nat} (h : ∀ e ∈ ds, d ≤ e) : FirstLeast (d :: ds) 0 :=
  ⟨by simp, by simpa using h, fun _ hk => absurd hk (Nat.not_lt_zero _)⟩

theorem FirstLeast.cons {d i : Nat} {ds : List Nat} (h : FirstLeast ds i) (hd : ds.getD i 0 < d) :
    FirstLeast (d :: ds) (i + 1) := by
  obtain ⟨hi, hleast, hbefore⟩ := h
  refine ⟨by simpa using hi, List.forall_mem_cons.2 ⟨Nat.le_of_lt hd, hleast⟩, fun k hk => ?_⟩
  cases k with
  | zero => simpa using hd
  | succ k => simpa using hbefore k (Nat.lt_of_succ_lt_succ hk)

theorem matchFrom_firstLeast (k : Nat) {ds : List Nat} (h : ds ≠ []) :
    ∃ i, matchFrom k ds = (k + i, ds.getD i 0) ∧ FirstLeast ds i := by
  fun_induction matchFrom k ds with
  | case1 => exact absurd rfl h
  | case2 k d => exact ⟨0, rfl, firstLeast_zero (by simp)⟩
  | case3 k d ds hne r hle ih =>
    obtain ⟨i, hr, -, hleast, -⟩ := ih hne
    have hd : d ≤ ds.getD i 0 := by simpa [r, hr] using hle
    exact ⟨0, rfl, firstLeast_zero fun e he => Nat.le_trans hd (hleast e he)⟩
  | case4 k d ds hne r hgt ih =>
    obtain ⟨i, hr, hfirst⟩ := ih hne
    have hd : ds.getD i 0 < d := by simpa [r, hr] using hgt
    have hmatch : r = (k + (i + 1), ds.getD i 0) := hr.trans (by rw [Nat.add_assoc, Nat.add_comm 1 i])
    exact ⟨i + 1, hmatch, hfirst.cons hd⟩

/-- The matched alternate, by its place in the list (its number less 1). -/
theorem matchedAlternate_firstLeast {ds : List Nat} (h : ds ≠ []) :
    ∃ i, matchedAlternate ds = (i + 1, ds.getD i 0) ∧ FirstLeast ds i := by
  obtain ⟨i, hm, hfirst⟩ := matchFrom_firstLeast 1 h
  exact ⟨i, by rw [matchedAlternate, hm, Nat.add_comm], hfirst⟩

/-! ### The traceback (R126, R127) -/

/-- How many letters of the trail a move goes back. -/
def rowsBack : Move → Nat
  | .diagonal => 1
  | .swap => 2
  | .omission => 0
  | .extra => 1

/-- How many letters of the alternate a move goes back. -/
def columnsBack : Move → Nat
  | .diagonal => 1
  | .swap => 2
  | .omission => 1
  | .extra => 0

/-- What a move adds to the distance (R123, R124). -/
def moveCost (same : Bool) : Move → Nat
  | .diagonal => if same then 0 else 1
  | _ => 1

/-- The four counts together. -/
def faults (r : Judged) : Nat := r.subs + r.swaps + r.omissions + r.extras

theorem rowsBack_add_columnsBack_pos (m : Move) : 0 < rowsBack m + columnsBack m := by cases m <;> decide

theorem move_marks_length (r : Judged) (m : Move) (same : Bool) :
    (r.move m same).marks.length = r.marks.length + columnsBack m := by
  cases m with
  | diagonal => cases same <;> rfl
  | swap | omission | extra => rfl

theorem move_faults (r : Judged) (m : Move) (same : Bool) : faults (r.move m same) = faults r + moveCost same m := by
  cases m with
  | diagonal =>
    cases same with
    | true => rfl
    | false => simp only [Judged.move, faults, moveCost, Bool.false_eq_true, if_false]; omega
  | swap | omission | extra => simp only [Judged.move, faults, moveCost]; omega

/-- One move of the walk, whatever its kind. -/
theorem traceback_succ (a t : List Nat) (d : List (List Nat)) (fuel : Nat) {i j : Nat} (r : Judged) (h : ¬ (i = 0 ∧ j = 0)) :
    traceback a t d (fuel + 1) i j r = traceback a t d fuel
      (i - rowsBack (moveAt a t d i j)) (j - columnsBack (moveAt a t d i j))
      (r.move (moveAt a t d i j) (letterAt a i = letterAt t j)) := by
  rw [traceback, if_neg h]
  cases hm : moveAt a t d i j <;> rfl

/-- A move fits at (i, j) if it stays in the table and accounts for the entry there (R126's consistency). -/
def Fits (a t : List Nat) (i j : Nat) (m : Move) : Prop :=
  rowsBack m ≤ i ∧ columnsBack m ≤ j ∧ entry (distanceTable a t) i j =
    entry (distanceTable a t) (i - rowsBack m) (j - columnsBack m) + moveCost (letterAt a i = letterAt t j) m

section
variable {a t : List Nat} {i j : Nat}

theorem fits_diagonal : Fits a t i j .diagonal ↔ 1 ≤ i ∧ 1 ≤ j ∧ entry (distanceTable a t) (i - 1) (j - 1) +
    (if letterAt a i = letterAt t j then 0 else 1) = entry (distanceTable a t) i j := by
  simp [Fits, rowsBack, columnsBack, moveCost, eq_comm]

theorem fits_swap (hs : swapOk a t i j = true) : Fits a t i j .swap ↔
    entry (distanceTable a t) (i - 2) (j - 2) + 1 = entry (distanceTable a t) i j := by
  simp [Fits, rowsBack, columnsBack, moveCost, eq_comm, two_le_of_swapOk hs]

theorem fits_omission : Fits a t i j .omission ↔
    1 ≤ j ∧ entry (distanceTable a t) i (j - 1) + 1 = entry (distanceTable a t) i j := by
  simp [Fits, rowsBack, columnsBack, moveCost, eq_comm]

theorem fits_extra : Fits a t i j .extra ↔
    1 ≤ i ∧ entry (distanceTable a t) (i - 1) j + 1 = entry (distanceTable a t) i j := by
  simp [Fits, rowsBack, columnsBack, moveCost, eq_comm]

/-- Where no other move is consistent the extra is: of the candidates of R123 only it is left. -/
theorem fits_extra_of_not (hi : i < a.length) (hj : j ≤ t.length) (hdiagonal : ¬ Fits a t (i + 1) j .diagonal)
    (hswap : swapOk a t (i + 1) j → ¬ Fits a t (i + 1) j .swap) (homission : ¬ Fits a t (i + 1) j .omission) :
    Fits a t (i + 1) j .extra := by
  rw [fits_extra]
  refine ⟨Nat.le_add_left 1 i, ?_⟩
  cases j with
  | zero => rw [Nat.add_sub_cancel, entry_zero_right hi, entry_zero_right (Nat.le_of_lt hi)]
  | succ j =>
    have hentry := entry_succ hi hj
    simp only [fits_diagonal, fits_omission, letterAt, Nat.add_sub_cancel, Nat.le_add_left, true_and]
      at hdiagonal homission ⊢
    split at hentry
    next hs =>
      have hnot := mt (fits_swap hs).2 (hswap hs)
      simp only [Nat.reduceSubDiff] at hnot
      rw [leastAt] at hentry
      omega
    next => rw [leastAt] at hentry; omega

/-- The traceback's choice at an entry fits there. -/
theorem moveAt_fits (hi : i ≤ a.length) (hj : j ≤ t.length) (h : ¬ (i = 0 ∧ j = 0)) :
    Fits a t i j (moveAt a t (distanceTable a t) i j) := by
  refine iteInduction (motive := Fits a t i j) fits_diagonal.2 fun hd =>
    iteInduction (motive := Fits a t i j) (fun hs => (fits_swap hs.1).2 hs.2) fun hs =>
      iteInduction (motive := Fits a t i j) fits_omission.2 fun ho =>
        iteInduction (motive := Fits a t i j) (fun he => ?extra) fun he => ?omission
  case extra =>
    obtain ⟨i, rfl⟩ := Nat.exists_eq_add_of_le' he
    exact fits_extra_of_not hi hj (mt fits_diagonal.1 hd) (fun hw hf => hs ⟨hw, (fits_swap hw).1 hf⟩)
      (mt fits_omission.1 ho)
  case omission =>
    obtain rfl : i = 0 := by omega
    refine fits_omission.2 ⟨by omega, ?_⟩
    rw [entry_zero_left hj, entry_zero_left (by omega)]
    omega

end

/-- The walk from (i, j) gathers a mark for each letter of the alternate and counts that add up to the entry there. -/
theorem traceback_marks_faults {a t : List Nat} {fuel i j : Nat} (r : Judged) (hi : i ≤ a.length) (hj : j ≤ t.length)
    (hfuel : i + j ≤ fuel) :
    (traceback a t (distanceTable a t) fuel i j r).marks.length = r.marks.length + j ∧
      faults (traceback a t (distanceTable a t) fuel i j r) = faults r + entry (distanceTable a t) i j := by
  have atOrigin : entry (distanceTable a t) 0 0 = 0 := entry_zero_left (Nat.zero_le _)
  induction fuel generalizing i j r with
  | zero =>
    obtain ⟨rfl, rfl⟩ : i = 0 ∧ j = 0 := by omega
    exact ⟨rfl, by rw [atOrigin]; rfl⟩
  | succ fuel ih =>
    by_cases h : i = 0 ∧ j = 0
    · obtain ⟨rfl, rfl⟩ := h
      exact ⟨rfl, by rw [atOrigin]; rfl⟩
    · rw [traceback_succ _ _ _ _ _ h]
      obtain ⟨hrows, hcolumns, hentry⟩ := moveAt_fits hi hj h
      generalize moveAt a t (distanceTable a t) i j = m at hrows hcolumns hentry ⊢
      have hpos := rowsBack_add_columnsBack_pos m
      obtain ⟨hmarks, hfaults⟩ := ih (r.move m (letterAt a i = letterAt t j))
        (i := i - rowsBack m) (j := j - columnsBack m) (by omega) (by omega) (by omega)
      rw [hmarks, hfaults, move_marks_length, move_faults]
      omega

/-! ### A judging (R121, R128) -/

/-- The distance at a place is that of the alternate there. -/
theorem getD_distances (a : List Nat) {alts : List (List Nat)} {i : Nat} (hi : i < alts.length) :
    (alts.map (distance a)).getD i 0 = distance a (alts.getD i []) := by
  rw [getD_of_lt 0 (by simpa using hi), getD_of_lt [] hi, List.getElem_map]

/-- What a judging answers, alternate i + 1 being the matched one. -/
theorem judge_eq (a : List Nat) {alts : List (List Nat)} (h : alts ≠ []) :
    ∃ i, ∃ hi : i < alts.length, FirstLeast (alts.map (distance a)) i ∧
      judge a alts = (judgeVerdict (distance a alts[i]) alts[i].length,
        { traceback a alts[i] (distanceTable a alts[i]) (a.length + alts[i].length) a.length alts[i].length {} with
          matched := i + 1, distance := distance a alts[i] }) := by
  obtain ⟨i, hm, hfirst⟩ := matchedAlternate_firstLeast (ds := alts.map (distance a)) (by simpa using h)
  have hi : i < alts.length := by simpa using hfirst.1
  refine ⟨i, hi, hfirst, ?_⟩
  simp [judge, traceResult, hm, hi]

theorem judgeVerdict_correct_iff (d n : Nat) : judgeVerdict d n = .correct ↔ d = 0 := by
  unfold judgeVerdict
  split
  next h => simp [h]
  next h => split <;> simp [h]

theorem judge_correct_iff (a : List Nat) {alts : List (List Nat)} (h : alts ≠ []) :
    (judge a alts).1 = .correct ↔ a ∈ alts := by
  obtain ⟨i, hi, ⟨-, hleast, -⟩, hj⟩ := judge_eq a h
  rw [hj, judgeVerdict_correct_iff, distance_eq_zero_iff]
  refine ⟨fun he => he ▸ List.getElem_mem hi, fun ha => (distance_eq_zero_iff _ _).1 (Nat.le_zero.1 ?_)⟩
  have hzero := hleast 0 (List.mem_map.2 ⟨a, ha, (distance_eq_zero_iff a a).2 rfl⟩)
  rw [getD_distances a hi, getD_of_lt [] hi] at hzero
  exact hzero

/-! ### The score (R130) -/

theorem base_le {n : Nat} (d : Nat) : 100 * (n - d) / n ≤ 100 :=
  Nat.div_le_of_le_mul (by rw [Nat.mul_comm n]; exact Nat.mul_le_mul_left 100 (Nat.sub_le n d))

theorem penalty_le {n h v : Nat} (r s : Nat) (hh : h ≤ 7) (hv : v ≤ n) :
    6 * h + 2 * min r 5 + 40 * v / n + 3 * min s 10 ≤ 122 := by
  have hrevealed : 40 * v / n ≤ 40 := Nat.div_le_of_le_mul (by rw [Nat.mul_comm n]; exact Nat.mul_le_mul_left 40 hv)
  omega

theorem score_eq (n d h r s v : Nat) : (score n d h r s v : Int) = max 0 (min 100
    (((100 * (n - d) / n : Nat) : Int) - (6 * h + 2 * min r 5 + 40 * v / n + 3 * min s 10 : Nat))) := by
  simp only [score]
  generalize 100 * (n - d) / n = base
  generalize 6 * h + 2 * min r 5 + 40 * v / n + 3 * min s 10 = penalty
  omega

theorem score_of_le {n d : Nat} (h r s v : Nat) (hd : n ≤ d) : score n d h r s v = 0 := by
  simp [score, Nat.sub_eq_zero_of_le hd]

/-! ### The unit at work on an empty queue (R121) -/

theorem advance_idle {u : AlignUnit} (hs : u.state = .idle) : u.advance = u := by
  simp only [AlignUnit.advance, hs]

theorem advance_filling_cons {u : AlignUnit} {t : List Nat} {rest : List (List Nat)} (hs : u.state = .filling)
    (hu : u.unfilled = t :: rest) : u.advance = u.fill t := by
  simp [AlignUnit.advance, hs, hu]

theorem advance_filling_nil {u : AlignUnit} (hs : u.state = .filling) (hu : u.unfilled = []) :
    u.advance = { u with state := .tracing } := by
  simp [AlignUnit.advance, hs, hu]

/-- In TRACING a sound unit comes to hold the judging of its copies. -/
theorem advance_tracing {u : AlignUnit} (hs : u.state = .tracing) (hu : u.inRange) :
    u.advance = { u with traced := some (judge u.trail u.alternates) } := by
  have hsound := AlignUnit.advance_inRange hu
  simp only [AlignUnit.advance, hs] at hsound ⊢
  split
  next htraced =>
    obtain ⟨r, hr⟩ := Option.isSome_iff_exists.1 htraced
    obtain ⟨-, -, -, -, hresult, -⟩ := hu
    rw [← (hresult r hr).2, ← hr, ← hs]
  next htraced =>
    rw [if_neg htraced] at hsound
    obtain ⟨-, -, -, -, hresult, -⟩ := hsound
    have hjudge : traceResult u.trail u.alternates u.tables u.distances = judge u.trail u.alternates := (hresult _ rfl).2
    rw [AlignUnit.trace, hjudge]

/-! ### The obligations -/

/-- Settles O1: by the two branches of a step, the empty queue's being `AlignUnit.advance`. -/
theorem stepRunsFront : Obligations.StepRunsFront := by
  refine ⟨fun c rest s => rfl, fun s hempty => ⟨idle s, ?_, rfl, fun hs => ?_, fun a rest hs hrest => ?_, fun hs hall => ?_,
    fun hs hsound => advance_tracing hs hsound⟩⟩
  · simp only [step, hempty]
  · simp only [idle, State.onUnit, advance_idle hs]
  · exact advance_filling_cons hs hrest
  · exact advance_filling_nil hs (List.drop_eq_nil_of_le hall)

/-- Settles O44: the score is a difference clamped, its base bounded by `base_le` and its penalty by `penalty_le`. -/
theorem scoreAndVerdict : Obligations.ScoreAndVerdict := by
  refine ⟨fun d n => rfl, fun n d h r s v _ hh hv => ?_⟩
  have hbase : (max 0 ((n : Int) - d)).toNat = n - d := by omega
  intro base penalty
  simp only [base, penalty, hbase]
  exact ⟨score_eq n d h r s v, base_le d, penalty_le r s hh hv, score_of_le h r s v⟩

/-- Settles O45: the table's entries by `entry_succ`, and by induction over them where an entry is 0 and how great it is. -/
theorem distanceExact : Obligations.DistanceExact := by
  refine ⟨⟨fun a t => ⟨distance_eq_zero_iff a t, distance_le_max a t⟩, fun a _ h => judge_correct_iff a h⟩,
    fun a t => ⟨fun i hi => entry_zero_right hi, fun j hj => entry_zero_left hj, fun i j hi hj => ?_⟩⟩
  simp only [← swapOk_succ]
  exact entry_succ hi hj

/-- Settles O46: the matched alternate by `judge_eq`, its marks and counts by induction over the walk. -/
theorem marksAndCounts : Obligations.MarksAndCounts := by
  intro a alts h j
  obtain ⟨i, hi, ⟨-, hleast, hbefore⟩, hj⟩ := judge_eq a h
  have hmatched : alts.getD (i + 1 - 1) [] = alts[i] := getD_of_lt [] hi
  obtain ⟨hmarks, hfaults⟩ := traceback_marks_faults (a := a) (t := alts[i]) {} (Nat.le_refl _) (Nat.le_refl _) (Nat.le_refl _)
  simp only [j, hj, hmatched]
  refine ⟨Nat.succ_pos i, hi, trivial, fun t ht => ?_, fun k hk hlt => ?_, ?_, ?_⟩
  · have hle := hleast _ (List.mem_map_of_mem ht)
    rw [getD_distances a hi, getD_of_lt [] hi] at hle
    exact hle
  · have hki : k - 1 < i := by omega
    have hlt := hbefore (k - 1) hki
    rw [getD_distances a hi, getD_distances a (Nat.lt_trans hki hi), getD_of_lt [] hi] at hlt
    exact hlt
  · simpa using hmarks
  · simpa [faults, distance] using hfaults

end Sys2Proof.Machine.Alignment
end

section
/-! Mastery and the review queue (chapter 8): the order of the queue, what the due decrement and an insertion make of it,
the new mastery and the gap. -/
namespace Sys2Proof.Machine.ReviewQueue

/-! ### The order of the entries (R141, R142) -/

theorem before_iff {now : Word} {a b : ReviewEntry} : a.before now b = true ↔
    a.due < b.due ∨ (a.due = b.due ∧ (now - b.number).toNat ≤ (now - a.number).toNat) := by
  simp [ReviewEntry.before]

theorem before_of_not_before {now : Word} {a b : ReviewEntry} (h : ¬ a.before now b = true) : b.before now a = true := by
  rw [before_iff] at h ⊢
  omega

theorem before_trans {now : Word} {a b c : ReviewEntry} (hab : a.before now b = true) (hbc : b.before now c = true) :
    a.before now c = true := by
  rw [before_iff] at hab hbc ⊢
  omega

/-- The queue in the order of R142: every entry may stand before those behind it. -/
def Ordered (now : Word) (q : List ReviewEntry) : Prop := q.Pairwise fun a b => a.before now b = true

theorem insertInOrder_perm (now : Word) (e : ReviewEntry) (q : List ReviewEntry) : (insertInOrder now e q).Perm (e :: q) := by
  induction q with
  | nil => exact .refl _
  | cons x xs ih =>
    rw [insertInOrder]
    split
    · exact .refl _
    · exact (ih.cons x).trans (.swap e x xs)

theorem insertInOrder_ordered {now : Word} {q : List ReviewEntry} (e : ReviewEntry) (h : Ordered now q) :
    Ordered now (insertInOrder now e q) := by
  induction q with
  | nil => exact List.pairwise_singleton _ _
  | cons x xs ih =>
    obtain ⟨hx, hxs⟩ := List.pairwise_cons.1 h
    rw [insertInOrder]
    split
    next hex =>
      refine List.pairwise_cons.2 ⟨fun y hy => ?_, h⟩
      rcases List.mem_cons.1 hy with rfl | hy
      · exact hex
      · exact before_trans hex (hx y hy)
    next hex =>
      refine List.pairwise_cons.2 ⟨fun y hy => ?_, ih hxs⟩
      rcases mem_insertInOrder.1 hy with rfl | hy
      · exact before_of_not_before hex
      · exact hx y hy

theorem orderQueue_cons (now : Word) (e : ReviewEntry) (q : List ReviewEntry) :
    orderQueue now (e :: q) = insertInOrder now e (orderQueue now q) := rfl

theorem orderQueue_perm (now : Word) (q : List ReviewEntry) : (orderQueue now q).Perm q := by
  induction q with
  | nil => exact .refl _
  | cons x xs ih => exact (insertInOrder_perm now x _).trans (ih.cons x)

theorem orderQueue_ordered (now : Word) (q : List ReviewEntry) : Ordered now (orderQueue now q) := by
  induction q with
  | nil => exact .nil
  | cons x xs ih => rw [orderQueue_cons]; exact insertInOrder_ordered x ih

/-! ### A new entry's place (R142) -/

theorem insertNew_eq_filter (e : ReviewEntry) {q : List ReviewEntry} (h : q.Pairwise fun a b => a.due ≤ b.due) :
    insertNew e q = q.filter (fun x => decide (x.due ≤ e.due)) ++ e :: q.filter (fun x => decide (e.due < x.due)) := by
  induction q with
  | nil => rfl
  | cons x xs ih =>
    obtain ⟨hx, hxs⟩ := List.pairwise_cons.1 h
    rw [insertNew]
    split
    next hlt =>
      have hhigher : ∀ y ∈ x :: xs, e.due < y.due :=
        List.forall_mem_cons.2 ⟨hlt, fun y hy => Nat.lt_of_lt_of_le hlt (hx y hy)⟩
      rw [List.filter_eq_nil_iff.2 fun y hy => by simpa using hhigher y hy,
        List.filter_eq_self.2 fun y hy => by simpa using hhigher y hy, List.nil_append]
    next hle =>
      rw [List.filter_cons_of_pos (by simpa using hle), List.filter_cons_of_neg (by simpa using hle), ih hxs,
        List.cons_append]

/-! ### The new mastery (R135) and the gap (R140) -/

section
variable {pass : Nat} {f : FinalTry} (m : Nat)

theorem newMastery_clean (hv : f.verdict = .correct) (ht : f.tryNo = 1) (hp : pass ≤ f.score) :
    newMastery pass m f = min 15 (m + if 95 ≤ f.score then 2 else 1) := by
  simp only [newMastery, hv, ht, hp, and_self, if_true]
  split <;> rfl

theorem newMastery_correct (hv : f.verdict = .correct) (h : f.tryNo ≠ 1 ∨ f.score < pass) : newMastery pass m f = m := by
  have hunclean : ¬ (f.tryNo = 1 ∧ pass ≤ f.score) := by omega
  simp only [newMastery, hv, hunclean, if_false]

theorem newMastery_close (hv : f.verdict = .close) : newMastery pass m f = m - 1 := by
  simp only [newMastery, hv]

theorem newMastery_failed (hv : f.verdict ∈ [Verdict.wrong, .timedOut, .gaveUp]) : newMastery pass m f = m / 2 := by
  simp only [List.mem_cons, List.not_mem_nil, or_false] at hv
  rcases hv with hv | hv | hv <;> simp only [newMastery, hv]

end

theorem reviewGap_bounds {gapBase : Nat} (m : Nat) (h : 1 ≤ gapBase) : 1 ≤ reviewGap gapBase m ∧ reviewGap gapBase m ≤ 15 := by
  rw [reviewGap]
  omega

/-! ### O47 -/

/-- Settles O47: the decrement sorts by insertion (`orderQueue_perm`, `orderQueue_ordered`), a new entry cuts an ordered
queue in two (`insertNew_eq_filter`), and R135's table is read line by line. -/
theorem reviewQueueAndGap : Obligations.ReviewQueueAndGap := by
  refine ⟨⟨fun now q => ⟨orderQueue_perm now _, ?_⟩, fun e q h => insertNew_eq_filter e h⟩,
    fun pass m f => ⟨newMastery_clean m, newMastery_correct m, fun hv => ?_, newMastery_failed m⟩,
    fun gapBase m h _ _ => ⟨rfl, reviewGap_bounds m h⟩⟩
  · exact (orderQueue_ordered now _).imp before_iff.1
  · rw [newMastery_close m hv]
    omega

end Sys2Proof.Machine.ReviewQueue
end

section
/-! The mask and the display line (chapter 9): which positions a mask shows, which alternate the line shows, and what
each of its cells holds. -/
namespace Sys2Proof.Machine.DisplayLine

/-! ### The mask (R153, R154) -/

theorem mem_positions {lo hi p : Nat} : p ∈ positions lo hi ↔ lo ≤ p ∧ p ≤ hi := by
  simp only [positions, List.mem_map, List.mem_range]
  constructor
  · rintro ⟨i, hi, rfl⟩
    omega
  · rintro ⟨hlo, hhi⟩
    exact ⟨p - lo, by omega, by omega⟩

/-- The table of R153, for a position of the alternate. -/
theorem maskShows_iff (w : WordImage) (n p : Nat) : maskShows w n p = true ↔
    w.maskMode = .all ∨
      (w.maskMode = .span ∧ (p ≤ min w.lead n ∨ n + 1 ≤ p + min w.trail n)) ∨
      (w.maskMode = .windows ∧ ∃ i ∈ w.windows, i.on = true ∧
        max 1 (min 24 i.start) ≤ p ∧ p < max 1 (min 24 i.start) + i.width) := by
  cases hmode : w.maskMode with
  | noMask => simp [maskShows, hmode]
  | all => simp [maskShows, hmode]
  | span =>
    have htrail : n - min w.trail n < p ↔ n + 1 ≤ p + min w.trail n := by omega
    simp [maskShows, hmode, htrail]
  | windows =>
    simp only [maskShows, hmode, List.any_eq_true, Bool.and_eq_true, decide_eq_true_eq, and_assoc]
    simp [clamp]

theorem mem_maskPositions {w : WordImage} {n p : Nat} :
    p ∈ maskPositions w n ↔ (1 ≤ p ∧ p ≤ n) ∧ maskShows w n p = true := by
  rw [maskPositions, List.mem_filter, mem_positions]

theorem shownSets_review {w : WordImage} {x : List Nat} (h : x ∈ shownSets w true) : x = [] := by
  obtain ⟨_, -, rfl⟩ := List.mem_map.1 h
  rfl

/-! ### The display alternate (R155) -/

theorem leastOf_eq {l : List Nat} {a : Nat} (d : Nat) (hmem : a ∈ l) (hleast : ∀ b ∈ l, a ≤ b) : leastOf l d = a := by
  cases l with
  | nil => exact absurd hmem List.not_mem_nil
  | cons x xs =>
    have hmin : (x :: xs).min? = some a := List.min?_eq_some_iff.2 ⟨hmem, hleast⟩
    rw [List.min?_cons', Option.some_inj] at hmin
    rw [leastOf, List.headD_cons, List.foldl_cons, Nat.min_self, hmin]

theorem displayAlternate_eq {e : Engine} {mode : Mode} {a : Nat}
    (hwhole : e.verdict = .noVerdict → mode = .whole → a = 1)
    (hlive : e.verdict = .noVerdict → mode = .live → a ∈ e.live ∧ ∀ b ∈ e.live, a ≤ b)
    (hjudged : e.verdict ∈ [Verdict.correct, .close, .wrong] → a = e.judged.matched)
    (hended : e.verdict ∈ [Verdict.timedOut, .gaveUp] → a = 1) : displayAlternate e mode = a := by
  cases hv : e.verdict with
  | noVerdict =>
    cases mode with
    | whole => simp only [displayAlternate, hv, hwhole hv rfl]
    | live =>
      obtain ⟨hmem, hleast⟩ := hlive hv rfl
      simp only [displayAlternate, hv, leastOf_eq 1 hmem hleast]
  | correct | close | wrong => simp only [displayAlternate, hv, hjudged (by simp [hv])]
  | timedOut | gaveUp => simp only [displayAlternate, hv, hended (by simp [hv])]

/-! ### The cells (R156, R157) -/

theorem length_positions (lo hi : Nat) : (positions lo hi).length = hi + 1 - lo := by
  simp [positions]

theorem length_lineCells (e : Engine) (mode : Mode) : (lineCells e mode).length = 32 := by
  simp only [lineCells, List.length_map, length_positions]

/-- The value at k of a list with one value for each of the positions 1..n. -/
theorem getD_map_positions {α : Type} (f : Nat → α) (x : α) {n k : Nat} (h1 : 1 ≤ k) (hn : k ≤ n) :
    ((positions 1 n).map f).getD (k - 1) x = f k := by
  have hk : k - 1 < n := by omega
  have hback : k - 1 + 1 = k := by omega
  simp [positions, hk, hback]

theorem getD_lineCells {e : Engine} {mode : Mode} {a k : Nat} (ha : displayAlternate e mode = a) (h1 : 1 ≤ k) (h32 : k ≤ 32) :
    (lineCells e mode).getD (k - 1) {} =
      if e.verdict = .noVerdict then typingCell e (e.image.alternates.getD (a - 1) []) (e.shown.getD (a - 1) []) k
      else judgedCell e (e.image.alternates.getD (a - 1) []) k := by
  subst ha
  exact getD_map_positions _ _ h1 h32

theorem typingCell_eq (e : Engine) (alt shown : List Nat) (k : Nat) : typingCell e alt shown k =
    if k ≤ e.trail.length then { letter := e.trail.getD (k - 1) 0, state := .typed }
    else if alt.length < k then { letter := 0, state := .empty }
    else if k ∈ shown then { letter := alt.getD (k - 1) 0, state := .shown }
    else if k ∈ e.revealed then { letter := alt.getD (k - 1) 0, state := .revealed }
    else { letter := 0, state := .hidden } := by
  simp only [typingCell, letterAt, ← Nat.not_le, ite_not]

theorem judgedCell_above (e : Engine) {alt : List Nat} {k : Nat} (h : alt.length < k) : judgedCell e alt k = {} := by
  rw [judgedCell, if_neg (Nat.not_le.2 h)]

theorem judgedCell_ended {e : Engine} {alt : List Nat} {k : Nat} (h : k ≤ alt.length)
    (hv : e.verdict ∈ [Verdict.timedOut, .gaveUp]) :
    judgedCell e alt k = { letter := alt.getD (k - 1) 0, state := .revealed } := by
  simp only [List.mem_cons, List.not_mem_nil, or_false] at hv
  rcases hv with hv | hv <;> simp only [judgedCell, letterAt, if_pos h, hv]

theorem judgedCell_marked {e : Engine} {alt : List Nat} {k : Nat} (h : k ≤ alt.length)
    (hv : e.verdict ∉ [Verdict.timedOut, .gaveUp]) :
    judgedCell e alt k = { letter := alt.getD (k - 1) 0, state := (e.judged.marks.getD (k - 1) .ok).cell } := by
  simp only [judgedCell, letterAt, if_pos h]
  split
  next hv' => simp [hv'] at hv
  next hv' => simp [hv'] at hv
  next => rfl

/-! ### O57 -/

/-- Settles O57: a mask's positions by `maskShows_iff`, and the line cell by cell on the alternate of
`displayAlternate_eq`, as `typingCell` or `judgedCell` gives it. -/
theorem lineAndMask : Obligations.LineAndMask := by
  refine ⟨fun w n p => ⟨?_, fun x => shownSets_review⟩,
    fun e mode a hwhole hlive hjudged hended => ⟨length_lineCells e mode, fun k h1 h32 => ?_⟩⟩
  · rw [mem_maskPositions, maskShows_iff, and_assoc]
  · rw [getD_lineCells (displayAlternate_eq hwhole hlive hjudged hended) h1 h32, typingCell_eq]
    congr 1
    split
    next habove => exact judgedCell_above e habove
    next hwithin =>
      have hk := Nat.not_lt.1 hwithin
      split
      next hv => exact judgedCell_ended hk hv
      next hv => exact judgedCell_marked hk hv

end Sys2Proof.Machine.DisplayLine
end

section
/-! What the Speech Composer's operations do to its registers (R169 to R181): a rule for each, and what each leaves alone. -/
namespace Sys2Proof.Machine.Composer

/-! ### Counters (R181) -/

/-- A counter's own register. -/
def tallied (c : Speech) : ScCounter → BitVec 16
  | .bankFaults => c.bankFaults
  | .handoffLapsed => c.handoffLapsed
  | .echoDropped => c.echoDropped

/-- The composer with a counter at this value and these copies pending. -/
def tally (k : ScCounter) (v : BitVec 16) (copies : List ScCounter) (c : Speech) : Speech :=
  match k with
  | .bankFaults => { c with bankFaults := v, pendCopies := copies }
  | .handoffLapsed => { c with handoffLapsed := v, pendCopies := copies }
  | .echoDropped => { c with echoDropped := v, pendCopies := copies }

/-- A counter advances, saturating at 65535, and nothing but its copy is touched. -/
theorem count_eq (c : Speech) (k : ScCounter) (n : Nat) : ∃ v copies,
    c.count k n = tally k v copies c ∧ v.toNat = min 65535 ((tallied c k).toNat + n) := by
  have hlt := (tallied c k).isLt
  by_cases h : n = 0 ∨ tallied c k = 65535
  · refine ⟨tallied c k, c.pendCopies, by cases k <;> exact if_pos h, ?_⟩
    rcases h with h | h
    · omega
    · rw [h]; simp
  · exact ⟨satAdd (tallied c k) n, addOnce k c.pendCopies, by cases k <;> exact if_neg h,
      by simp only [satAdd, BitVec.toNat_ofNat]; omega⟩

theorem count_zero (c : Speech) (k : ScCounter) : c.count k 0 = c := by simp [Speech.count]

/-! ### What phrases leave alone -/

/-- The registers of the composer that making a plan, gathering and writing a phrase leave as they are. -/
def standing (c : Speech) : Speech :=
  { queue := c.queue, seq := c.seq, settings := c.settings, replay := c.replay, record := c.record
    handoffSeq := c.handoffSeq, recWrites := c.recWrites, doneWanted := c.doneWanted, donePending := c.donePending
    starting := c.starting, handoffLapsed := c.handoffLapsed, echoDropped := c.echoDropped }

/-- A state without what a phrase changes: the composer's other registers and the end mark. -/
def unphrased (s : State) : State := { s with speech := standing s.speech, audio := { s.audio with mark := none } }

/-- A state without what a plan changes too: the engine's speech flags (R111, R175). -/
def unplanned (s : State) : State := { unphrased s with engine := {} }

theorem unplanned_of_unphrased {s t : State} (h : unphrased s = unphrased t) : unplanned s = unplanned t :=
  congrArg (fun w : State => { w with engine := {} }) h

section
variable {s t : State}

theorem speech_of_unplanned {α : Type} (f : Speech → α) (hf : ∀ c, f (standing c) = f c)
    (h : unplanned s = unplanned t) : f s.speech = f t.speech := by
  have hstanding : standing s.speech = standing t.speech := (congrArg State.speech h :)
  rw [← hf s.speech, hstanding, hf]

theorem lc_of_unplanned (h : unplanned s = unplanned t) : s.lc = t.lc := (congrArg State.lc h :)
theorem clock_of_unplanned (h : unplanned s = unplanned t) : s.clock = t.clock := (congrArg State.clock h :)

theorem buffer_of_unplanned (h : unplanned s = unplanned t) : s.audio.buffer = t.audio.buffer :=
  (congrArg (·.audio.buffer) h :)

theorem audio_of_unplanned (h : unplanned s = unplanned t) : s.audio = { t.audio with mark := s.audio.mark } := by
  have hunmarked : ({ s.audio with mark := none } : Audio) = { t.audio with mark := none } := (congrArg State.audio h :)
  exact (congrArg (fun a : Audio => { a with mark := s.audio.mark }) hunmarked :)

theorem engine_of_unphrased (h : unphrased s = unphrased t) : s.engine = t.engine := (congrArg State.engine h :)

end

/-- Speaking leaves a calm part calm: its write block, Lesson Controller and end under way are as they were. -/
theorem calm_of_spoken {s t : State} (h : t.spoken = s.spoken) (hs : s.calm) : t.calm := by
  have hw : t.port.writeBlock = s.port.writeBlock := (congrArg (·.port.writeBlock) h :)
  have hlc : t.lc = s.lc := (congrArg State.lc h :)
  have he : t.engine.ending = s.engine.ending := (congrArg (·.engine.ending) h :)
  simpa [State.calm, State.lcQuiet, State.endUnderWay, hw, hlc, he] using hs

/-! ### Gathering (R173, R178) -/

theorem resolved_eq (c : Speech) (us : List UnitHeader) : ∃ v copies,
    c.resolved us = { c with
      bankFaults := v, pendCopies := copies
      phrasePlan := if c.state = .gather then c.phrasePlan ++ us else c.phrasePlan
      lookAhead := if c.state = .gather then c.lookAhead else c.lookAhead ++ us } ∧
    v.toNat = min 65535 (c.bankFaults.toNat + us.countP (· = .silence)) := by
  obtain ⟨v, copies, hc, hv⟩ := count_eq c .bankFaults (us.countP (· = .silence))
  refine ⟨v, copies, ?_, hv⟩
  by_cases h : c.state = .gather <;> simp [Speech.resolved, hc, h, tally]

theorem resolved_nil (c : Speech) : c.resolved [] = c := by
  simp only [Speech.resolved, List.countP_nil, count_zero, List.append_nil, ite_self]

/-- The units that are bad without a read join the others as silence. -/
theorem absorbBad_eq (s : State) : ∃ n v copies,
    absorbBad s = { s with speech := { s.speech with
      bankFaults := v, pendCopies := copies
      phrasePlan := if s.speech.state = .gather then s.speech.phrasePlan ++ List.replicate n .silence
        else s.speech.phrasePlan
      lookAhead := if s.speech.state = .gather then s.speech.lookAhead
        else s.speech.lookAhead ++ List.replicate n .silence } } ∧
    s.speech.bankFaults.toNat ≤ v.toNat := by
  let n := (s.speech.unresolved.takeWhile (badWithoutRead s.audio.directory)).length
  obtain ⟨v, copies, hr, hv⟩ := resolved_eq s.speech (List.replicate n .silence)
  have hlt := s.speech.bankFaults.isLt
  exact ⟨n, v, copies, congrArg (fun c => { s with speech := c }) hr, by omega⟩

/-- With nothing to resolve, or a unit that is read first, no unit is absorbed. -/
theorem absorbBad_of_takeWhile {s : State}
    (h : s.speech.unresolved.takeWhile (badWithoutRead s.audio.directory) = []) : absorbBad s = s := by
  simp only [absorbBad, h]
  exact congrArg (fun c => { s with speech := c }) (resolved_nil s.speech)

theorem unphrased_absorbBad (s : State) : unphrased (absorbBad s) = unphrased s := by
  obtain ⟨n, v, copies, h, -⟩ := absorbBad_eq s
  rw [h]
  rfl

/-- The composer at the start of FILL, or of PLAY where the buffer holds the start level (R178). -/
def filling (s : State) : State :=
  s.onSpeech fun c =>
    ({ c with segs := buildSegs (c.phraseAt c.phrase).items c.phrasePlan, codes := [], lookAhead := [], hdrWords := [] }
      : Speech).display (if s.audio.buffer.length ≥ min Config.startLevel c.total then .play else .fill) c.phrase c.last

theorem enterFill_eq (s : State) : enterFill s = absorbBad (filling s) := rfl

theorem filling_state (s : State) : (filling s).speech.state = .fill ∨ (filling s).speech.state = .play := by
  simp only [filling, State.onSpeech_speech, Speech.display]
  split
  · exact .inr rfl
  · exact .inl rfl

/-- FILL and PLAY have the phrase's plan as it was gathered; only the look-ahead grows. -/
theorem enterFill_speech (s : State) : ∃ v copies ahead,
    enterFill s = { s with speech := { (filling s).speech with bankFaults := v, pendCopies := copies, lookAhead := ahead } } ∧
    s.speech.bankFaults.toNat ≤ v.toNat := by
  obtain ⟨n, v, copies, h, hv⟩ := absorbBad_eq (filling s)
  have hne : (filling s).speech.state ≠ .gather := by
    rcases filling_state s with h | h <;> rw [h] <;> decide
  rw [if_neg hne, if_neg hne] at h
  exact ⟨v, copies, _, (enterFill_eq s).trans h, hv⟩

theorem gatherMore_cases (s : State) : gatherMore s = absorbBad s ∨
    ((absorbBad s).speech.state = .gather ∧ gatherMore s = enterFill (absorbBad s)) := by
  unfold gatherMore
  dsimp only
  split
  next h => exact .inr ⟨h.1, rfl⟩
  next => exact .inl rfl

theorem unphrased_enterFill (s : State) : unphrased (enterFill s) = unphrased s := by
  obtain ⟨v, copies, ahead, h, -⟩ := enterFill_speech s
  rw [h]
  rfl

theorem unphrased_gatherMore (s : State) : unphrased (gatherMore s) = unphrased s := by
  rcases gatherMore_cases s with h | ⟨-, h⟩
  · rw [h, unphrased_absorbBad]
  · rw [h, unphrased_enterFill, unphrased_absorbBad]

/-- What gathering leaves of the registers that a phrase has. -/
theorem gatherMore_kept (s : State) :
    (gatherMore s).speech.plan = s.speech.plan ∧ (gatherMore s).speech.planned = s.speech.planned ∧
    (gatherMore s).speech.phrase = s.speech.phrase ∧ (gatherMore s).speech.last = s.speech.last ∧
    (gatherMore s).speech.ramp = s.speech.ramp ∧ (gatherMore s).speech.strRef = s.speech.strRef ∧
    (gatherMore s).audio = s.audio ∧ s.speech.bankFaults.toNat ≤ (gatherMore s).speech.bankFaults.toNat := by
  obtain ⟨n, v, copies, ha, hv⟩ := absorbBad_eq s
  rcases gatherMore_cases s with h | ⟨-, h⟩
  · rw [h, ha]
    exact ⟨rfl, rfl, rfl, rfl, rfl, rfl, rfl, hv⟩
  · obtain ⟨v', copies', ahead, hf, hv'⟩ := enterFill_speech (absorbBad s)
    rw [h, hf]
    rw [ha] at hv' ⊢
    exact ⟨rfl, rfl, rfl, rfl, rfl, rfl, rfl, Nat.le_trans hv hv'⟩

/-- Gathering in GATHER stays there or goes on to FILL or PLAY. -/
theorem gatherMore_state {s : State} (h : s.speech.state = .gather) :
    (gatherMore s).speech.state ∈ [ComposerState.gather, .fill, .play] := by
  obtain ⟨n, v, copies, ha, -⟩ := absorbBad_eq s
  rcases gatherMore_cases s with hg | ⟨-, hg⟩
  · rw [hg, ha]
    simp [h]
  · obtain ⟨v', copies', ahead, hf, -⟩ := enterFill_speech (absorbBad s)
    rw [hg, hf]
    rcases filling_state (absorbBad s) with h | h <;> simp [h]

/-- A phrase whose units are all resolved is filled at once. -/
theorem gatherMore_of_resolved {s : State} (hs : s.speech.state = .gather) (hp : s.speech.planned = true)
    (h : s.speech.unresolved = []) : gatherMore s = enterFill s := by
  have ha : absorbBad s = s := absorbBad_of_takeWhile (by rw [h]; rfl)
  simp only [gatherMore, ha, hs, hp, h, and_self, if_true]

end Sys2Proof.Machine.Composer
end

section
/-! Phrases, pauses and plans of the Speech Composer (R167 to R182). -/
namespace Sys2Proof.Machine.Composer

/-! ### A phrase begins (R176, R180, R183) -/

/-- The composer as phrase n begins, in a state of its own: the look-ahead becomes the phrase's plan, or is gathered afresh. -/
def opening (st : ComposerState) (n : Nat) (replayed : Bool) (c : Speech) : Speech :=
  ({ c with
      phrasePlan := if replayed then [] else c.lookAhead, lookAhead := []
      hdrWords := if replayed then [] else c.hdrWords, segs := [], codes := []
      ramp := if n = 0 || (c.phraseAt (n - 1)).handoff.isSome || replayed then 1 else 0
      gap := .trailing, gapLeft := 0, waitMark := decide (st = .handoff) } : Speech).display st n
    (decide (n + 1 = c.plan.length))

section
variable {n : Nat} {s : State} (replayed : Bool)

theorem beginPhrase_handoff (h : (s.speech.phraseAt n).handoff ≠ none) :
    beginPhrase n replayed s = placeMark (s.onSpeech (opening .handoff n replayed)) := by
  have h' : (s.speech.phraseAt n).handoff.isSome = true := Option.isSome_iff_ne_none.2 h
  unfold beginPhrase
  dsimp only
  rw [if_pos h']
  rfl

theorem beginPhrase_units (h : (s.speech.phraseAt n).handoff = none) :
    beginPhrase n replayed s = gatherMore (s.onSpeech (opening .gather n replayed)) := by
  have h' : ¬ (s.speech.phraseAt n).handoff.isSome = true := by simp [h]
  unfold beginPhrase
  dsimp only
  rw [if_neg h']
  rfl

variable (n s)

theorem unphrased_beginPhrase : unphrased (beginPhrase n replayed s) = unphrased s := by
  by_cases h : (s.speech.phraseAt n).handoff = none
  · rw [beginPhrase_units replayed h, unphrased_gatherMore]
    rfl
  · rw [beginPhrase_handoff replayed h]
    rfl

/-- Which phrase it is, and that its plan stands. -/
theorem beginPhrase_kept :
    (beginPhrase n replayed s).speech.plan = s.speech.plan ∧
    (beginPhrase n replayed s).speech.planned = s.speech.planned ∧
    (beginPhrase n replayed s).speech.phrase = n ∧
    (beginPhrase n replayed s).speech.last = decide (n + 1 = s.speech.plan.length) ∧
    (beginPhrase n replayed s).speech.strRef = s.speech.strRef := by
  by_cases h : (s.speech.phraseAt n).handoff = none
  · obtain ⟨hplan, hplanned, hphrase, hlast, -, hstr, -, -⟩ := gatherMore_kept (s.onSpeech (opening .gather n replayed))
    rw [beginPhrase_units replayed h, hplan, hplanned, hphrase, hlast, hstr]
    exact ⟨rfl, rfl, rfl, rfl, rfl⟩
  · rw [beginPhrase_handoff replayed h]
    exact ⟨rfl, rfl, rfl, rfl, rfl⟩

/-- A phrase of units is gathered or filled, a hand-off phrase waits in HANDOFF. -/
theorem beginPhrase_state :
    (beginPhrase n replayed s).speech.state ∈ [ComposerState.gather, .fill, .play, .handoff] := by
  by_cases h : (s.speech.phraseAt n).handoff = none
  · rw [beginPhrase_units replayed h]
    have hg := gatherMore_state (s := s.onSpeech (opening .gather n replayed)) rfl
    exact List.mem_append_left [.handoff] hg
  · rw [beginPhrase_handoff replayed h]
    exact List.mem_append_right [ComposerState.gather, .fill, .play] (List.mem_singleton.2 rfl)

end

theorem unphrased_awaitEnd (s : State) : unphrased (awaitEnd s) = unphrased s := rfl

/-! ### Pauses (R169, R177, R180) -/

/-- The composer as GAP begins with so many samples to write. -/
def pausing (kind : GapKind) (n : Nat) (c : Speech) : Speech :=
  ({ c with gap := kind, gapLeft := n, segs := [], codes := [], ramp := 0 } : Speech).display .gap c.phrase c.last

theorem enterGap_pos (kind : GapKind) {n : Nat} (h : 0 < n) (s : State) :
    enterGap kind n s = s.onSpeech (pausing kind n) := if_neg (by omega)

theorem enterGap_zero (kind : GapKind) (s : State) : enterGap kind 0 s = finishGap (s.onSpeech (pausing kind 0)) := rfl

/-- The length of the pause that follows the composer's phrase. -/
def pauseOf (c : Speech) : Nat := gapSamples c.settings (if c.last then c.settings.finalGap else c.settings.phraseGap)

section
variable {s : State}

theorem trailingPause_pos (h : 0 < pauseOf s.speech) :
    trailingPause s = s.onSpeech (pausing .trailing (pauseOf s.speech)) := enterGap_pos .trailing h s

theorem trailingPause_last (h : pauseOf s.speech = 0) (hl : s.speech.last = true) :
    trailingPause s = awaitEnd (s.onSpeech (pausing .trailing 0)) := by
  have he : trailingPause s = enterGap .trailing (pauseOf s.speech) s := rfl
  rw [he, h, enterGap_zero]
  exact if_pos hl

theorem trailingPause_next (h : pauseOf s.speech = 0) (hl : s.speech.last = false) :
    trailingPause s = beginPhrase (s.speech.phrase + 1) false (s.onSpeech (pausing .trailing 0)) := by
  have he : trailingPause s = enterGap .trailing (pauseOf s.speech) s := rfl
  rw [he, h, enterGap_zero]
  exact if_neg (c := s.speech.last = true) (by simp [hl])

theorem unphrased_trailingPause (s : State) : unphrased (trailingPause s) = unphrased s := by
  rcases Nat.eq_zero_or_pos (pauseOf s.speech) with h | h
  · cases hl : s.speech.last with
    | true => rw [trailingPause_last h hl]; rfl
    | false => rw [trailingPause_next h hl, unphrased_beginPhrase]; rfl
  · rw [trailingPause_pos h]; rfl

end

/-! ### The plan (R170, R174, R175) -/

theorem reportForced_eq (n : Nat) (s : State) : ∃ e, reportForced n s = { s with engine := e } := by
  unfold reportForced
  split
  · exact ⟨_, rfl⟩
  · exact ⟨s.engine, rfl⟩

theorem reportUnspoken_eq (s : State) : ∃ e, reportUnspoken s = { s with engine := e } := by
  unfold reportUnspoken
  split
  · exact ⟨_, rfl⟩
  · exact ⟨s.engine, rfl⟩

theorem addWords_eq (ws : List (List UnitRef)) (gapMs : Nat) (s : State) : ∃ e, addWords ws gapMs s = { s with
    engine := e, speech := { s.speech with
      plan := s.speech.plan ++ (partPhrases s.speech.settings.maxPhrase (gapSamples s.speech.settings gapMs) ws).1 } } := by
  unfold addWords
  dsimp only
  obtain ⟨e, h⟩ := reportForced_eq
    (partPhrases s.speech.settings.maxPhrase (gapSamples s.speech.settings gapMs) ws).2
    (s.onSpeech fun c => { c with
      plan := c.plan ++ (partPhrases s.speech.settings.maxPhrase (gapSamples s.speech.settings gapMs) ws).1 })
  exact ⟨e, h⟩

/-- The string a part is read from, in the utterance at the head. -/
def reads (s : State) : Part → Option Nat := partString s.audio.directory s.speech.bank s.speech.settings

/-- The phrases that parts make of themselves, in the utterance at the head. -/
def makes (s : State) (ps : List Part) : List Phrase :=
  ps.flatMap (partPlan s.audio.directory s.speech.bank s.speech.settings)

/-- A part read from a string stops the plan there. -/
theorem planMore_string {s : State} {p : Part} {ref : Nat} (h : reads s p = some ref) (ps : List Part) :
    planMore (p :: ps) s = s.onSpeech fun c => { c with parts := ps, strRef := some ref, strBytes := [] } := by
  simp only [reads, partString] at h
  unfold planMore
  split at h
  case h_1 hf => rw [hf]; cases h; rfl
  case h_2 => cases h

/-- The plan longer by some phrases, and whatever the engine has been told of them (R111). -/
def lengthened (phrases : List Phrase) (e : Engine) (s : State) : State :=
  { s with engine := e, speech := { s.speech with plan := s.speech.plan ++ phrases } }

/-- Any other part lengthens the plan by its phrases. -/
theorem planMore_cons {s : State} {p : Part} (h : reads s p = none) (ps : List Part) :
    ∃ e, planMore (p :: ps) s =
      planMore ps (lengthened (partPlan s.audio.directory s.speech.bank s.speech.settings p) e s) := by
  simp only [planMore, partPlan]
  cases hf : partForm s.audio.directory s.speech.bank s.speech.settings p with
  | words ws gapMs =>
    obtain ⟨e, ha⟩ := addWords_eq ws gapMs s
    exact ⟨e, congrArg (planMore ps) ha⟩
  | handoff card part => exact ⟨s.engine, rfl⟩
  | replaced =>
    obtain ⟨e, hr⟩ := reportUnspoken_eq s
    obtain ⟨e', ha⟩ := addWords_eq [[cueUnit s.audio.directory s.speech.bank cueWordMissing]] 0 { s with engine := e }
    refine ⟨e', ?_⟩
    simp only [hr, ha, lengthened, gapSamples, Nat.zero_mul, Nat.zero_div]
  | string ref =>
    simp only [reads, partString, hf] at h
    cases h

/-- With no part to be read the plan is made. -/
theorem planMore_whole {ps : List Part} {s : State} (h : ∀ p ∈ ps, reads s p = none) :
    ∃ e, planMore ps s = (lengthened (makes s ps) e s).onSpeech fun c => { c with parts := [], planned := true } := by
  induction ps generalizing s with
  | nil => exact ⟨s.engine, by simp [planMore, lengthened, makes, State.onSpeech]⟩
  | cons p ps ih =>
    obtain ⟨e, hp⟩ := planMore_cons (h p List.mem_cons_self) ps
    obtain ⟨e', hps⟩ := ih (s := lengthened _ e s) fun x hx => h x (List.mem_cons_of_mem p hx)
    refine ⟨e', ?_⟩
    rw [hp, hps]
    simp only [lengthened, makes, List.flatMap_cons, State.onSpeech, List.append_assoc]
    rfl

/-- The plan stops at the first part to be read. -/
theorem planMore_reads {front rest : List Part} {p : Part} {ref : Nat} {s : State}
    (h : ∀ x ∈ front, reads s x = none) (hp : reads s p = some ref) :
    ∃ e, planMore (front ++ p :: rest) s =
      (lengthened (makes s front) e s).onSpeech fun c => { c with parts := rest, strRef := some ref, strBytes := [] } := by
  induction front generalizing s with
  | nil => exact ⟨s.engine, by simp [planMore_string hp, lengthened, makes, State.onSpeech]⟩
  | cons x front ih =>
    obtain ⟨e, hx⟩ := planMore_cons (h x List.mem_cons_self) (front ++ p :: rest)
    obtain ⟨e', hfront⟩ := ih (s := lengthened _ e s) (fun y hy => h y (List.mem_cons_of_mem x hy)) hp
    refine ⟨e', ?_⟩
    rw [List.cons_append, hx, hfront]
    simp only [lengthened, makes, List.flatMap_cons, State.onSpeech, List.append_assoc]
    rfl

/-- Parts are made whole, or there is a first to be read. -/
theorem reads_cases (s : State) (ps : List Part) : (∀ p ∈ ps, reads s p = none) ∨
    ∃ front p rest ref, ps = front ++ p :: rest ∧ (∀ x ∈ front, reads s x = none) ∧ reads s p = some ref := by
  induction ps with
  | nil => exact .inl (by simp)
  | cons p ps ih =>
    cases hp : reads s p with
    | some ref => exact .inr ⟨[], p, ps, ref, rfl, by simp, hp⟩
    | none =>
      rcases ih with h | ⟨front, x, rest, ref, rfl, hfront, hx⟩
      · exact .inl (by simpa [hp] using h)
      · exact .inr ⟨p :: front, x, rest, ref, rfl, by simpa [hp] using hfront, hx⟩

theorem unplanned_planMore (ps : List Part) (s : State) : unplanned (planMore ps s) = unplanned s := by
  rcases reads_cases s ps with h | ⟨front, p, rest, ref, rfl, hfront, hp⟩
  · obtain ⟨e, h⟩ := planMore_whole h
    rw [h]; rfl
  · obtain ⟨e, h⟩ := planMore_reads (rest := rest) hfront hp
    rw [h]; rfl

/-! ### Starting (R167) -/

/-- The composer in GATHER with no plan. -/
def planless (c : Speech) : Speech := c.clearPlan.display .gather 0 false

theorem makePlan_cons {s : State} {u : Utterance} {us : List Utterance} (hq : s.speech.queue = u :: us) :
    makePlan s =
      let p := planMore u.parts (s.onSpeech planless)
      if p.speech.planned then beginPlan p else p := by
  unfold makePlan
  rw [hq]
  rfl

theorem beginPlan_nil {s : State} (h : s.speech.plan = []) : beginPlan s = awaitEnd s := if_pos h

theorem beginPlan_ne {s : State} (h : s.speech.plan ≠ []) : beginPlan s = beginPhrase 0 false s := if_neg h

theorem unplanned_beginPlan (s : State) : unplanned (beginPlan s) = unplanned s := by
  unfold beginPlan
  split
  · exact unplanned_of_unphrased (unphrased_awaitEnd s)
  · exact unplanned_of_unphrased (unphrased_beginPhrase 0 s false)

theorem unplanned_makePlan (s : State) : unplanned (makePlan s) = unplanned s := by
  cases hq : s.speech.queue with
  | nil => simp [makePlan, hq]
  | cons u us =>
    have hp : unplanned (planMore u.parts (s.onSpeech planless)) = unplanned s :=
      (unplanned_planMore u.parts _).trans rfl
    rw [makePlan_cons hq]
    dsimp only
    split
    · exact (unplanned_beginPlan _).trans hp
    · exact hp

/-- A plan made of these phrases, with whatever the engine has been told of them. -/
def planMade (phrases : List Phrase) (e : Engine) (s : State) : State :=
  { s with engine := e, speech := { planless s.speech with plan := phrases, planned := true } }

/-- A plan of these phrases that goes on after a string is read and with these parts. -/
def planReads (phrases : List Phrase) (ref : Nat) (rest : List Part) (e : Engine) (s : State) : State :=
  { s with engine := e, speech := { planless s.speech with plan := phrases, parts := rest, strRef := some ref } }

section
variable {s : State} {u : Utterance} {us : List Utterance} (hq : s.speech.queue = u :: us)
include hq

theorem makePlan_whole (h : ∀ p ∈ u.parts, reads s p = none) :
    ∃ e, makePlan s = beginPlan (planMade (makes s u.parts) e s) := by
  obtain ⟨e, hp⟩ := planMore_whole (s := s.onSpeech planless) h
  refine ⟨e, ?_⟩
  rw [makePlan_cons hq, hp]
  rfl

theorem makePlan_reads {front rest : List Part} {p : Part} {ref : Nat} (hu : u.parts = front ++ p :: rest)
    (h : ∀ x ∈ front, reads s x = none) (hp : reads s p = some ref) :
    ∃ e, makePlan s = planReads (makes s front) ref rest e s := by
  obtain ⟨e, hm⟩ := planMore_reads (s := s.onSpeech planless) (rest := rest) h hp
  refine ⟨e, ?_⟩
  rw [makePlan_cons hq, hu, hm]
  rfl

/-- A plan made has its first phrase begun, or an end to wait for; one not made is being read. -/
theorem makePlan_state : (makePlan s).speech.state ∈ [ComposerState.gather, .fill, .play, .handoff, .gap] := by
  rcases reads_cases s u.parts with h | ⟨front, p, rest, ref, hu, hfront, hp⟩
  · obtain ⟨e, hm⟩ := makePlan_whole hq h
    rw [hm, beginPlan]
    split
    · exact List.mem_append_right [ComposerState.gather, .fill, .play, .handoff] (List.mem_singleton.2 rfl)
    · exact List.mem_append_left [.gap] (beginPhrase_state 0 _ false)
  · obtain ⟨e, hm⟩ := makePlan_reads hq hu hfront hp
    rw [hm]
    exact List.mem_cons_self

end

/-- The head PLAYING with the settings of a context. -/
def playHead (settings : SpeechSettings) (c : Speech) : Speech :=
  { c with queue := match c.queue with | u :: us => { u with playing := true } :: us | [] => [], settings := settings }

theorem unplanned_startHead (s : State) :
    unplanned (startHead s) = unplanned (s.onSpeech (playHead (SpeechSettings.of s.lc.active))) := unplanned_makePlan _

theorem tryStart_starts {s : State} {u : Utterance} {us : List Utterance} (hq : s.speech.queue = u :: us)
    (hp : u.playing = false) (hh : s.hush = false) (hs : s.speech.state = .idle) : tryStart s = startHead s := by
  simp [tryStart, hq, hp, hh, hs]

theorem tryStart_cases (s : State) : tryStart s = s ∨ (s.speech.queue ≠ [] ∧ tryStart s = startHead s) := by
  unfold tryStart
  split
  next hq =>
    split
    · exact .inr ⟨by simp [hq], rfl⟩
    · exact .inl rfl
  next => exact .inl rfl

theorem tryStart_nil {s : State} (hq : s.speech.queue = []) : tryStart s = s := by simp [tryStart, hq]

end Sys2Proof.Machine.Composer
end

section
/-! What settling leaves of the Speech Composer (R15, R16). -/
namespace Sys2Proof.Machine.Composer

/-! ### What settling leaves of the composer -/

/-- The composer without what waits to be issued, which settling takes or the write block drops (R15, R16). -/
def unissued (c : Speech) : Speech :=
  { c with recWrites := [], doneWanted := false, donePending := false, pendMirror := false, pendCopies := [], starting := [] }

theorem unissued_takeIssued (a : Access) (s : State) : unissued (takeIssued a s).speech = unissued s.speech := by
  cases a <;> rfl

theorem unissued_issueFor (r : Requester) (s : State) : unissued (issueFor r s).speech = unissued s.speech := by
  unfold issueFor
  split
  · split
    · exact unissued_takeIssued _ _
    · rfl
  · rfl

theorem unissued_issueAll (s : State) : unissued (issueAll s).speech = unissued s.speech := by
  unfold issueAll
  split
  · rfl
  · simp only [unissued_issueFor]

/-- Settling leaves the composer but for what waits to be issued, even under the write block. -/
theorem settle_unissued (s : State) : unissued (settle s).speech = unissued s.speech :=
  calc unissued (settle s).speech
    _ = unissued (retime (lcAdvance s)).speech := unissued_issueAll _
    _ = unissued (lcAdvance s).speech := rfl
    _ = unissued s.speech := congrArg unissued (congrArg State.speech (LessonClock.unled_lcAdvance s) :)

theorem settle_speech {α : Type} (f : Speech → α) (hf : ∀ c, f (unissued c) = f c) (s : State) :
    f (settle s).speech = f s.speech := by
  rw [← hf (settle s).speech, settle_unissued, hf]

end Sys2Proof.Machine.Composer
end

section
/-! The word of a unit's table entry (R173, R178, R180). -/
namespace Sys2Proof.Machine.Composer

/-- A wanted word reaches the entry of the unit to resolve. -/
theorem unitHeaderReadReturn_of_onBus {off : Nat} {u : UnitRef} {us : List UnitRef} {s : State} (v : Word)
    (hb : s.onBus .header (.unitWord off)) (hu : s.speech.unresolved = u :: us) :
    exec (.unitHeaderReadReturn v) s = .next (settle (headerWordRead u v (s.onPort Port.release))) := by
  obtain ⟨b, -, hdiscard, -, hc⟩ := complete_of_onBus (test := Access.isUnitWord)
    (fun b s => match b.discard, s.speech.unresolved with
      | false, u :: _ => headerWordRead u v s
      | _, _ => s) hb rfl
  have hu' : (s.onPort Port.release).speech.unresolved = u :: us := hu
  simp only [hdiscard, hu'] at hc
  exact congrArg Host.Outcome.next hc

/-- What the words of an entry give (R173). -/
theorem unitOf_eq (x : Nat) (ws : List Word) : unitOf x ws =
    let bs := (wordsBytes ws).drop (x % 4)
    let o := (wordAt bs 0).toNat
    let len := halfAt bs 4 % 16384
    if len ≠ 0 ∧ o ≠ 0 ∧ o + len ≤ 0x40000 then UnitHeader.sound o len else .silence := by
  simp only [unitOf, spanInside]
  by_cases hl : halfAt ((wordsBytes ws).drop (x % 4)) 4 % 16384 = 0
  · simp [hl]
  · simp [hl]

/-- Units are added to the phrase plan in GATHER and to the look-ahead otherwise, and what gathering goes on to adds to
the same. -/
theorem gatherMore_extends (s : State) :
    (s.speech.state = .gather → s.speech.phrasePlan <+: (gatherMore s).speech.phrasePlan) ∧
    (s.speech.state ≠ .gather → s.speech.lookAhead <+: (gatherMore s).speech.lookAhead) ∧
    (s.speech.hdrWords = [] → (gatherMore s).speech.hdrWords = []) := by
  obtain ⟨n, v, copies, ha, -⟩ := absorbBad_eq s
  rcases gatherMore_cases s with h | ⟨hgather, h⟩
  · rw [h, ha]
    exact ⟨fun hs => by simp [hs], fun hs => by simp [hs], id⟩
  · obtain ⟨v', copies', ahead, hf, -⟩ := enterFill_speech (absorbBad s)
    have hs : s.speech.state = .gather := by rw [ha] at hgather; exact hgather
    rw [h, hf, ha]
    exact ⟨fun _ => by simp [filling, hs, Speech.display], fun hne => absurd hs hne, fun _ => rfl⟩

/-- The state in which a resolved unit leaves the composer to gather on. -/
def resolvedUnit (h : UnitHeader) (s : State) : State :=
  (s.onPort Port.release).onSpeech fun c => ({ c with hdrWords := [] } : Speech).resolved [h]

theorem resolvedUnit_speech (h : UnitHeader) (s : State) : ∃ v copies,
    (resolvedUnit h s).speech = { s.speech with
      hdrWords := [], bankFaults := v, pendCopies := copies
      phrasePlan := if s.speech.state = .gather then s.speech.phrasePlan ++ [h] else s.speech.phrasePlan
      lookAhead := if s.speech.state = .gather then s.speech.lookAhead else s.speech.lookAhead ++ [h] } ∧
    v.toNat = min 65535 (s.speech.bankFaults.toNat + if h = .silence then 1 else 0) := by
  obtain ⟨v, copies, hr, hv⟩ := resolved_eq ({ s.speech with hdrWords := [] } : Speech) [h]
  exact ⟨v, copies, hr, by simpa [List.countP_singleton] using hv⟩

theorem headerWordRead_short {u : UnitRef} {v : Word} {s : State}
    (h : (s.speech.hdrWords ++ [v]).length < entryWords (unitEntryOffset (s.audio.directory.getD u.bank {}) u.num)) :
    headerWordRead u v s = s.onSpeech fun c => { c with hdrWords := s.speech.hdrWords ++ [v] } := if_pos h

theorem headerWordRead_whole {u : UnitRef} {v : Word} {s : State}
    (h : entryWords (unitEntryOffset (s.audio.directory.getD u.bank {}) u.num) ≤ (s.speech.hdrWords ++ [v]).length) :
    headerWordRead u v (s.onPort Port.release) =
      gatherMore (resolvedUnit (unitOf (unitEntryOffset (s.audio.directory.getD u.bank {}) u.num)
        (s.speech.hdrWords ++ [v])) s) := if_neg (Nat.not_lt.2 h)

/-- Settles O36: the last word of an entry adds its unit (`resolved_eq`), and gathering goes on from there without
changing what was gathered (`gatherMore_extends`, `gatherMore_kept`). -/
theorem unitHeaderResolves : Obligations.UnitHeaderResolves := by
  intro off u us v s hb hcalm hu x ws bs o len h
  have hexec := unitHeaderReadReturn_of_onBus v hb hu
  refine ⟨fun hshort => ⟨_, hexec, ?short⟩, fun hwhole => ⟨_, hexec, ?whole⟩⟩
  case short =>
    rw [headerWordRead_short (s := s.onPort Port.release) hshort]
    exact bare_settle _ hcalm
  case whole =>
    have hh : unitOf x ws = h := unitOf_eq x ws
    rw [headerWordRead_whole hwhole, show unitEntryOffset (s.audio.directory.getD u.bank {}) u.num = x from rfl, hh]
    have hcalm' : (gatherMore (resolvedUnit h s)).calm :=
      calm_of_spoken (spoken_gatherMore _) (show (resolvedUnit h s).calm from hcalm)
    obtain ⟨v, copies, hr, hv⟩ := resolvedUnit_speech h s
    have hphrased := unphrased_gatherMore (resolvedUnit h s)
    have hplanned := unplanned_of_unphrased hphrased
    obtain ⟨hplan, hahead, hwords⟩ := gatherMore_extends (resolvedUnit h s)
    obtain ⟨hkept, -, -, -, -, -, -, hfaults⟩ := gatherMore_kept (resolvedUnit h s)
    have hqueue : (gatherMore (resolvedUnit h s)).speech.queue = (resolvedUnit h s).speech.queue :=
      speech_of_unplanned Speech.queue (fun _ => rfl) hplanned
    rw [hr] at hplan hahead hwords hkept hfaults hqueue
    rw [settle_speech Speech.phrasePlan (fun _ => rfl), settle_speech Speech.lookAhead (fun _ => rfl),
      settle_speech Speech.bankFaults (fun _ => rfl), settle_speech Speech.hdrWords (fun _ => rfl),
      settle_speech Speech.plan (fun _ => rfl), LessonClock.settle_queue, LessonClock.settle_engine _ hcalm'.1,
      Deck.settle_lc hcalm']
    refine ⟨fun hs => ?_, fun hs => ?_, fun hsil => ?_, hwords rfl, hkept, hqueue, ?_, ?_⟩
    · simpa [hs] using hplan hs
    · simpa [hs] using hahead hs
    · rw [if_pos hsil] at hv
      exact hv ▸ hfaults
    · exact (engine_of_unphrased hphrased).trans rfl
    · exact (lc_of_unplanned hplanned).trans rfl

end Sys2Proof.Machine.Composer
end

section
/-! Samples into the output buffer (R178 to R180, R194, R195): what BUFFER_WRITE writes in each state, and what follows the
last sample of a phrase and of a pause. -/
namespace Sys2Proof.Machine.Composer

/-! ### The word of samples (R179) -/

theorem exec_sampleReadReturn (v : Word) (s : State) : exec (.sampleReadReturn v) s = execSampleReadReturn v s := rfl

theorem sampleReadReturn_of_onBus {off : Nat} {s : State} (v : Word) (hb : s.onBus .sample (.sample off)) :
    exec (.sampleReadReturn v) s = .next (settle (sampleWord v (s.onPort Port.release))) := by
  obtain ⟨b, -, hdiscard, -, hc⟩ := complete_of_onBus (test := Access.isSample)
    (fun b s => if b.discard then s else sampleWord v s) hb rfl
  rw [hdiscard] at hc
  exact congrArg Host.Outcome.next hc

/-- A discarded word frees the bus and does nothing else. -/
theorem sampleReadReturn_discarded {off : Nat} {s : State} {b : BusAccess} (v : Word) (hb : s.port.busy = some b)
    (hr : b.requester = .sample) (ha : b.access = .sample off) (hd : b.discard = true) :
    exec (.sampleReadReturn v) s = .next (settle (s.onPort Port.release)) := by
  have hc : s.port.completing .sample Access.isSample = some b := by simp [Port.completing, hb, hr, ha, Access.isSample]
  simp [exec_sampleReadReturn, execSampleReadReturn, complete, hc, hd]

theorem sampleWord_sound {o n : Nat} {segs : List Seg} {s : State} (v : Word) (h : s.speech.segs = .sound o n :: segs) :
    sampleWord v s = s.onSpeech fun c => { c with codes := ((wordBytes v).drop (o % 4)).take n } := by
  simp only [sampleWord, h, sampleCodes]

/-! ### One sample (R176, R194, R195, R201) -/

/-- The output with an entry behind the others; with hush on the entry is discarded. -/
def appended (e : Int) (s : State) : Audio :=
  if s.hush then s.audio else { s.audio with buffer := s.audio.buffer ++ [e], underrun := false }

theorem writeSample_eq (code : Byte) (k : Nat) (s : State) :
    writeSample code k s = { s with audio := appended (formSample code s.audio.volume k) s } := by
  unfold writeSample appended
  split <;> rfl

theorem appended_length (e : Int) (s : State) :
    (appended e s).buffer.length = if s.hush then s.audio.buffer.length else s.audio.buffer.length + 1 := by
  unfold appended
  split <;> simp

theorem appended_directory (e : Int) (s : State) : (appended e s).directory = s.audio.directory := by
  unfold appended
  split <;> rfl

theorem appended_hush (e : Int) (s : State) : (appended e s).hush = s.hush := by
  unfold appended
  split <;> rfl

theorem formSample_zero (volume k : Nat) : formSample 0 volume k = 0 := by
  simp [formSample, linear, truncScale]

theorem exec_bufferWrite (s : State) : exec .bufferWrite s = .next (settle (writeBuffer s)) := rfl

/-- With no room, or nothing to write in this state, BUFFER_WRITE writes nothing. -/
theorem writeBuffer_idle {s : State}
    (h : 512 ≤ s.audio.buffer.length ∨ s.speech.state ∈ [ComposerState.idle, .gather, .handoff, .hushed]) :
    writeBuffer s = s := by
  unfold writeBuffer
  split
  · rfl
  next hroom =>
    have hs := h.resolve_left hroom
    simp only [List.mem_cons, List.not_mem_nil, or_false] at hs
    rcases hs with hs | hs | hs | hs <;> rw [hs]

theorem writeBuffer_phrase {s : State} (hs : s.speech.state ∈ [ComposerState.fill, .play])
    (hroom : s.audio.buffer.length < 512) : writeBuffer s = writePhrase s := by
  simp only [List.mem_cons, List.not_mem_nil, or_false] at hs
  have hfull : ¬ Config.bufferDepth ≤ s.audio.buffer.length := Nat.not_le.2 hroom
  rcases hs with hs | hs <;> simp only [writeBuffer, if_neg hfull, hs]

theorem writeBuffer_gap {s : State} (hs : s.speech.state = .gap) (hroom : s.audio.buffer.length < 512) :
    writeBuffer s = writePause s := by
  have hfull : ¬ Config.bufferDepth ≤ s.audio.buffer.length := Nat.not_le.2 hroom
  simp only [writeBuffer, if_neg hfull, hs]

/-! ### A sample of a phrase (R178) -/

/-- The part with an entry written of the phrase, this much of it left. -/
def sampled (e : Int) (segs : List Seg) (codes : List Byte) (s : State) : State :=
  { s with
    audio := appended e s, speech := { s.speech with segs := segs, codes := codes, ramp := nextRamp s.speech.ramp } }

theorem writePhrase_quiet {n : Nat} {segs : List Seg} {s : State} (h : s.speech.segs = .quiet n :: segs) :
    writePhrase s = afterSample (sampled 0 (if n ≤ 1 then segs else .quiet (n - 1) :: segs) s.speech.codes s) := by
  simp only [writePhrase, h, writeSample_eq, formSample_zero]
  rfl

theorem writePhrase_sound {o n : Nat} {segs : List Seg} {code : Byte} {codes : List Byte} {s : State}
    (h : s.speech.segs = .sound o n :: segs) (hc : s.speech.codes = code :: codes) :
    writePhrase s = afterSample (sampled (formSample code s.audio.volume s.speech.ramp)
      (if n ≤ 1 then segs else .sound (o + 1) (n - 1) :: segs) (if n ≤ 1 then [] else codes) s) := by
  simp only [writePhrase, h, hc, writeSample_eq]
  rfl

theorem afterSample_last {s : State} (h : s.speech.segs = []) : afterSample s = trailingPause s := if_pos h

/-- FILL is PLAY once the buffer holds min(256, total). -/
def risen (s : State) : ComposerState :=
  if s.speech.state = .fill ∧ min 256 s.speech.total ≤ s.audio.buffer.length then .play else s.speech.state

theorem afterSample_more {s : State} (h : s.speech.segs ≠ []) : afterSample s = s.onSpeech fun c =>
    { c with state := risen s, pendMirror := c.pendMirror || decide (risen s ≠ c.state) } := by
  unfold afterSample
  rw [if_neg h]
  by_cases hst : s.speech.state = .fill ∧ min Config.startLevel s.speech.total ≤ s.audio.buffer.length
  · have hrisen : risen s = .play := if_pos hst
    rw [if_pos hst, hrisen]
    simp [State.onSpeech, Speech.display, hst.1]
  · have hrisen : risen s = s.speech.state := if_neg hst
    rw [if_neg hst, hrisen]
    simp [State.onSpeech]

/-! ### What follows a trailing pause (R168, R180, R183) -/

/-- The end of the utterance is awaited in GAP, its mark behind this output's entries. -/
def FinalMark (a : Audio) (t : State) : Prop :=
  t.speech.state = .gap ∧ t.speech.gapLeft = 0 ∧ t.speech.waitMark = true ∧ t.audio = { a with mark := some a.buffer.length }

/-- The phrase after that of s has begun, behind this output's entries. -/
def NextPhrase (s : State) (a : Audio) (t : State) : Prop :=
  let phrase := s.speech.plan.getD (s.speech.phrase + 1) {}
  let segs' := buildSegs phrase.items s.speech.lookAhead
  t.speech.phrase = s.speech.phrase + 1 ∧ t.speech.last = decide (s.speech.phrase + 2 = s.speech.plan.length) ∧
    (phrase.handoff ≠ none → t.speech.state = .handoff ∧ t.speech.waitMark = true ∧
      t.audio = { a with mark := some a.buffer.length }) ∧
    (phrase.handoff = none → t.audio = a ∧
      (phrase.units.length ≤ s.speech.lookAhead.length → s.speech.planned = true → t.speech.segs = segs' ∧
        t.speech.phrasePlan = s.speech.lookAhead ∧
        t.speech.state = if min 256 (segs'.map Seg.samples).sum ≤ a.buffer.length then .play else .fill) ∧
      ∀ u us, phrase.units.drop s.speech.lookAhead.length = u :: us → badWithoutRead s.audio.directory u = false →
        t.speech.state = .gather ∧ t.speech.phrasePlan = s.speech.lookAhead)

theorem unresolved_gather {c : Speech} (hs : c.state = .gather) (hp : c.planned = true) :
    c.unresolved = (c.phraseAt c.phrase).units.drop c.phrasePlan.length := if_pos ⟨hs, hp⟩

theorem unresolved_unplanned {c : Speech} (hs : c.state = .gather) (hp : c.planned = false) : c.unresolved = [] := by
  simp [Speech.unresolved, Speech.lookingAhead, hs, hp]

/-- A phrase whose next unit is to be read waits in GATHER. -/
theorem gatherMore_waits {s : State} {u : UnitRef} {us : List UnitRef} (hs : s.speech.state = .gather)
    (hu : (s.speech.phraseAt s.speech.phrase).units.drop s.speech.phrasePlan.length = u :: us)
    (hgood : badWithoutRead s.audio.directory u = false) : gatherMore s = s := by
  cases hp : s.speech.planned with
  | true =>
    have hunres := (unresolved_gather hs hp).trans hu
    have ha : absorbBad s = s := absorbBad_of_takeWhile (by rw [hunres, List.takeWhile_cons_of_neg (by simp [hgood])])
    simp [gatherMore, ha, hunres]
  | false =>
    have ha : absorbBad s = s := absorbBad_of_takeWhile (by rw [unresolved_unplanned hs hp]; rfl)
    simp [gatherMore, ha, hp]

/-- From the registers of s the next phrase begins. -/
theorem nextPhrase_beginPhrase {s w : State} (hplan : w.speech.plan = s.speech.plan)
    (hahead : w.speech.lookAhead = s.speech.lookAhead) (hplanned : w.speech.planned = s.speech.planned)
    (hdir : w.audio.directory = s.audio.directory) :
    NextPhrase s w.audio (settle (beginPhrase (s.speech.phrase + 1) false w)) := by
  let n := s.speech.phrase + 1
  obtain ⟨-, -, hphrase, hlast, -⟩ := beginPhrase_kept n w false
  rw [hplan] at hlast
  have hat : w.speech.phraseAt n = s.speech.plan.getD n {} := congrArg (fun l : List Phrase => l.getD n {}) hplan
  refine ⟨(settle_speech Speech.phrase (fun _ => rfl) _).trans hphrase,
    (settle_speech Speech.last (fun _ => rfl) _).trans hlast, fun hhand => ?handoff, fun hunits => ?units⟩
  case handoff =>
    rw [beginPhrase_handoff false (hat ▸ hhand), LessonClock.settle_audio, settle_speech Speech.state (fun _ => rfl),
      settle_speech Speech.waitMark (fun _ => rfl)]
    exact ⟨rfl, rfl, rfl⟩
  case units =>
    let g := w.onSpeech (opening .gather n false)
    have hg : g.speech.state = .gather := rfl
    have hgat : g.speech.phraseAt g.speech.phrase = s.speech.plan.getD n {} := hat
    have hgplan : g.speech.phrasePlan = s.speech.lookAhead := hahead
    rw [beginPhrase_units false (hat ▸ hunits)]
    obtain ⟨-, -, -, -, -, -, haudio, -⟩ := gatherMore_kept g
    refine ⟨(LessonClock.settle_audio _).trans haudio, fun hlen hp => ?filled, fun u us hu hgood => ?waits⟩
    case filled =>
      have hunres : g.speech.unresolved = [] := by
        rw [unresolved_gather hg (hplanned.trans hp), hgat, hgplan]
        exact List.drop_eq_nil_of_le hlen
      obtain ⟨v, copies, ahead, hf, -⟩ := enterFill_speech g
      rw [settle_speech Speech.segs (fun _ => rfl), settle_speech Speech.phrasePlan (fun _ => rfl),
        settle_speech Speech.state (fun _ => rfl), gatherMore_of_resolved hg (hplanned.trans hp) hunres, hf, ← hgplan, ← hgat]
      exact ⟨rfl, rfl, rfl⟩
    case waits =>
      rw [← hgplan, ← hgat] at hu
      have hwaits := gatherMore_waits hg hu (by rw [← hgood, ← hdir]; rfl)
      rw [settle_speech Speech.phrasePlan (fun _ => rfl), settle_speech Speech.state (fun _ => rfl), hwaits]
      exact ⟨hg, hgplan⟩

theorem finalMark_awaitEnd {w : State} (h : w.speech.gapLeft = 0) : FinalMark w.audio (settle (awaitEnd w)) := by
  refine ⟨?_, ?_, ?_, LessonClock.settle_audio _⟩
  · rw [settle_speech Speech.state (fun _ => rfl)]; rfl
  · rw [settle_speech Speech.gapLeft (fun _ => rfl)]; exact h
  · rw [settle_speech Speech.waitMark (fun _ => rfl)]; rfl

/-- After the last sample of a phrase: GAP with the trailing pause to write, or at once what follows a pause. -/
theorem afterSample_sampled_last (e : Int) (codes : List Byte) (s : State) :
    let t := settle (afterSample (sampled e [] codes s))
    (0 < pauseOf s.speech → t.speech.state = .gap ∧ t.speech.gap = .trailing ∧ t.speech.gapLeft = pauseOf s.speech ∧
      t.speech.segs = [] ∧ t.audio = appended e s) ∧
    (pauseOf s.speech = 0 → s.speech.last = true → FinalMark (appended e s) t) ∧
    (pauseOf s.speech = 0 → s.speech.last = false → NextPhrase s (appended e s) t) := by
  let w := sampled e [] codes s
  rw [afterSample_last (s := w) rfl]
  have hpause : pauseOf w.speech = pauseOf s.speech := rfl
  refine ⟨fun h => ?_, fun h hl => ?_, fun h hl => ?_⟩
  · rw [trailingPause_pos (s := w) h, settle_speech Speech.state (fun _ => rfl), settle_speech Speech.gap (fun _ => rfl),
      settle_speech Speech.gapLeft (fun _ => rfl), settle_speech Speech.segs (fun _ => rfl), LessonClock.settle_audio]
    exact ⟨rfl, rfl, rfl, rfl, rfl⟩
  · rw [trailingPause_last (s := w) h hl]
    exact finalMark_awaitEnd (w := w.onSpeech (pausing .trailing 0)) rfl
  · rw [trailingPause_next (s := w) h hl]
    exact nextPhrase_beginPhrase (w := w.onSpeech (pausing .trailing 0)) rfl rfl rfl (appended_directory e s)

/-! ### A sample of a pause (R169, R180) -/

/-- The part with a 0 written of a pause. -/
def pausedOn (s : State) : State :=
  { s with audio := appended 0 s, speech := { s.speech with gapLeft := s.speech.gapLeft - 1 } }

section
variable {s : State} (hw : s.speech.waitMark = false)
include hw

theorem writePause_eq (hg : 0 < s.speech.gapLeft) :
    writePause s = if s.speech.gapLeft - 1 = 0 then finishGap (pausedOn s) else pausedOn s := by
  have h : ¬ (s.speech.waitMark = true ∨ s.speech.gapLeft = 0) := by simp [hw]; omega
  unfold writePause
  rw [if_neg h, writeSample_eq, formSample_zero]
  rfl

theorem writePause_more (hg : 1 < s.speech.gapLeft) : writePause s = pausedOn s := by
  rw [writePause_eq hw (by omega), if_neg (by omega)]

theorem writePause_last (hg : s.speech.gapLeft = 1) : writePause s = finishGap (pausedOn s) := by
  rw [writePause_eq hw (by omega), if_pos (by omega)]

end

section
variable {s : State}

theorem finishGap_last (hg : s.speech.gap = .trailing) (hl : s.speech.last = true) : finishGap s = awaitEnd s := by
  simp only [finishGap, hg, hl, if_true]

theorem finishGap_next (hg : s.speech.gap = .trailing) (hl : s.speech.last = false) :
    finishGap s = beginPhrase (s.speech.phrase + 1) false s := by
  simp [finishGap, hg, hl]

/-- The composer IDLE at the end of a switch gap. -/
def switched (c : Speech) : Speech := ({ c with gap := .trailing } : Speech).display .idle 0 false

theorem finishGap_switch (hg : s.speech.gap = .switch) : finishGap s = tryStart (s.onSpeech switched) := by
  simp only [finishGap, hg]
  rfl

/-- A head that starts has the settings of the active context and is PLAYING; the output keeps its entries. -/
theorem startHead_kept {u : Utterance} {us : List Utterance} (hq : s.speech.queue = u :: us) :
    (startHead s).speech.queue = { u with playing := true } :: us ∧
    (startHead s).speech.settings = SpeechSettings.of s.lc.active ∧
    (startHead s).speech.state ∈ [ComposerState.gather, .fill, .play, .handoff, .gap] ∧
    (startHead s).audio.buffer = s.audio.buffer := by
  let w := s.onSpeech (playHead (SpeechSettings.of s.lc.active))
  have hw : w.speech.queue = { u with playing := true } :: us := by simp [w, playHead, hq]
  have h : unplanned (startHead s) = unplanned w := unplanned_startHead s
  refine ⟨(speech_of_unplanned Speech.queue (fun _ => rfl) h).trans hw, ?_, makePlan_state hw, ?_⟩
  · exact (speech_of_unplanned Speech.settings (fun _ => rfl) h).trans rfl
  · exact (buffer_of_unplanned h).trans rfl

end

/-! ### O37 -/

section
variable {s : State} (hcalm : s.calm)
include hcalm

/-- More of a phrase to write: codes, spans and the ramp have moved on, and FILL is PLAY at the start level. -/
theorem bare_sampled_more (e : Int) {segs : List Seg} (codes : List Byte) (h : segs ≠ []) :
    (settle (afterSample (sampled e segs codes s))).bare = State.bare { s with
      audio := appended e s
      speech := { s.speech with
        segs := segs, codes := codes, ramp := nextRamp s.speech.ramp, state := risen (sampled e segs codes s)
        pendMirror := s.speech.pendMirror || decide (risen (sampled e segs codes s) ≠ s.speech.state) } } := by
  rw [afterSample_more (s := sampled e segs codes s) h]
  exact bare_settle _ hcalm

end

theorem risen_sampled (e : Int) (segs : List Seg) (codes : List Byte) (s : State) : risen (sampled e segs codes s) =
    if s.speech.state = .fill ∧
        min 256 s.speech.total ≤ (if s.hush then s.audio.buffer.length else s.audio.buffer.length + 1) then .play
      else s.speech.state := by
  rw [← appended_length e s]
  rfl

/-- Settles O37: `writePhrase_sound`, `writePhrase_quiet` and `writePause_eq` say what is written; what follows is
`bare_sampled_more` with more to write, `afterSample_sampled_last` behind the last sample of a phrase, and
`finalMark_awaitEnd`, `nextPhrase_beginPhrase` and `startHead_kept` behind the last 0 of a pause. -/
theorem samplesReachBuffer : Obligations.SamplesReachBuffer := by
  intro off v s hcalm
  refine ⟨fun o n segs hb hsegs => ⟨_, sampleReadReturn_of_onBus v hb, ?read⟩,
    fun b hb hr ha hd => ⟨_, sampleReadReturn_discarded v hb hr ha hd, bare_settle _ hcalm⟩,
    fun h => ⟨_, exec_bufferWrite s, ?full⟩, ?_⟩
  case read =>
    rw [sampleWord_sound (s := s.onPort Port.release) v hsegs]
    exact bare_settle _ hcalm
  case full =>
    rw [writeBuffer_idle h]
    exact bare_settle _ hcalm
  intro finalMark phrase segs' nextPhrase
  refine ⟨fun hs hroom => ?phrase, fun hs hroom hw => ?pause⟩
  case phrase =>
    intro put n' st ramp go pause lastSample
    have hexec : exec .bufferWrite s = .next (settle (writePhrase s)) := by
      rw [exec_bufferWrite, writeBuffer_phrase hs hroom]
    have hgo : ∀ {e segs codes}, segs ≠ [] → writePhrase s = afterSample (sampled e segs codes s) → go e segs codes := by
      intro e segs codes hne hwrite
      refine ⟨_, hexec, ?_⟩
      have hbare := bare_sampled_more hcalm e codes hne
      rw [risen_sampled] at hbare
      rw [hwrite]
      exact hbare
    have hlast : ∀ {e codes}, writePhrase s = afterSample (sampled e [] codes s) → lastSample e :=
      fun {e codes} hwrite => ⟨_, hwrite ▸ hexec, afterSample_sampled_last e codes s⟩
    refine ⟨fun o n segs c codes hsegs hcodes => ⟨fun hn => hgo (by simp) ?_, fun hn hne => hgo hne ?_⟩,
      fun n segs hsegs => ⟨fun hn => hgo (by simp) ?_, fun hn hne => hgo hne ?_,
        fun hn hnil => hlast (codes := s.speech.codes) ?_⟩,
      fun o n c codes hsegs hn hcodes => hlast (codes := []) ?_⟩
    · rw [writePhrase_sound hsegs hcodes, if_neg (by omega), if_neg (by omega)]
    · rw [writePhrase_sound hsegs hcodes, if_pos (by omega), if_pos (by omega)]
    · rw [writePhrase_quiet hsegs, if_neg (by omega)]
    · rw [writePhrase_quiet hsegs, if_pos (by omega)]
    · rw [writePhrase_quiet hsegs, if_pos (by omega), hnil]
    · rw [writePhrase_sound hsegs hcodes, if_pos (by omega), if_pos (by omega)]
  case pause =>
    intro audio
    have hexec : exec .bufferWrite s = .next (settle (writePause s)) := by
      rw [exec_bufferWrite, writeBuffer_gap hs hroom]
    refine ⟨fun hg => ⟨_, hexec, ?more⟩, fun hg hk hl => ⟨_, hexec, ?final⟩, fun hg hk hl => ⟨_, hexec, ?next⟩,
      fun hg hk => ⟨_, hexec, ?switch⟩⟩
    case more =>
      rw [writePause_more hw hg]
      exact bare_settle _ hcalm
    case final =>
      rw [writePause_last hw hg, finishGap_last (s := pausedOn s) hk hl]
      refine (bare_settle (awaitEnd (pausedOn s)) hcalm).trans ?_
      simp [awaitEnd, pausedOn, placeMark, State.onSpeech, State.onAudio, Speech.display, hs, hg, appended, audio]
    case next =>
      rw [writePause_last hw hg, finishGap_next (s := pausedOn s) hk hl]
      exact nextPhrase_beginPhrase (s := s) (w := pausedOn s) rfl rfl rfl (appended_directory 0 s)
    case switch =>
      rw [writePause_last hw hg, finishGap_switch (s := pausedOn s) hk]
      let w := (pausedOn s).onSpeech switched
      refine ⟨fun hq => ?_, fun u us hq hp hh => ?_⟩
      · rw [tryStart_nil (s := w) hq, LessonClock.settle_audio, settle_speech Speech.state (fun _ => rfl),
          settle_speech Speech.phrase (fun _ => rfl)]
        exact ⟨rfl, rfl, rfl⟩
      · rw [tryStart_starts (s := w) hq hp ((appended_hush 0 s).trans hh) rfl, LessonClock.settle_audio,
          LessonClock.settle_queue, settle_speech Speech.settings (fun _ => rfl), settle_speech Speech.state (fun _ => rfl)]
        obtain ⟨hqueue, hsettings, hstate, hbuffer⟩ := startHead_kept (s := w) hq
        exact ⟨hqueue, hsettings, fun hi => by simp [hi] at hstate, hbuffer⟩

end Sys2Proof.Machine.Composer
end

section
/-! The expiries of HANDOFF_WAIT and RESTART (R185, R187): a hand-off lapses, and a held utterance is replayed. -/
namespace Sys2Proof.Machine.Composer

theorem exec_handoffWaitExpiry (s : State) : exec .handoffWaitExpiry s = execHandoffWaitExpiry s := rfl

theorem onExpiry_none {n : TimerName} {f : Bool → State → State} {s : State} (h : (s.clock.get n).expired = false) :
    onExpiry n f s = s := by simp [onExpiry, h]

theorem onExpiry_taken {n : TimerName} {f : Bool → State → State} {s : State} (h : (s.clock.get n).expired = true) :
    onExpiry n f s = settle (f (s.clock.get n).stale (takeExpiry n s)) := by simp [onExpiry, h]

/-! ### A hand-off lapses (R185) -/

theorem handoffWaitExpiry_none {s : State} (h : s.clock.handoffWait.expired = false) :
    exec .handoffWaitExpiry s = .next s := congrArg Host.Outcome.next (onExpiry_none (n := .handoffWait) h)

theorem handoffWaitExpiry_over {s : State} (h : s.clock.handoffWait.expired = true)
    (hr : s.speech.record.state ≠ .requested) :
    exec .handoffWaitExpiry s = .next (settle (takeExpiry .handoffWait s)) := by
  rw [exec_handoffWaitExpiry, execHandoffWaitExpiry, onExpiry_taken (n := .handoffWait) h, if_neg (by exact hr)]

/-- The part with its hand-off lapsed, the trailing pause to come. -/
def lapsed (s : State) : State :=
  cancel .handoffWait ((dropDone (takeExpiry .handoffWait s)).onSpeech fun c =>
    ({ c with
        record := { c.record with state := .cancelled }
        recWrites := c.recWrites ++ [.state c.record.seq .cancelled c.record.part] } : Speech).count .handoffLapsed 1)

theorem handoffWaitExpiry_lapses {s : State} (h : s.clock.handoffWait.expired = true)
    (hr : s.speech.record.state = .requested) :
    exec .handoffWaitExpiry s = .next (settle (trailingPause (lapsed s))) := by
  rw [exec_handoffWaitExpiry, execHandoffWaitExpiry, onExpiry_taken (n := .handoffWait) h, if_pos (by exact hr)]
  rfl

theorem lapsed_speech (s : State) : ∃ v copies,
    (lapsed s).speech = { s.speech with
      record := { s.speech.record with state := .cancelled }
      recWrites := s.speech.recWrites ++ [.state s.speech.record.seq .cancelled s.speech.record.part]
      doneWanted := false, donePending := false, handoffLapsed := v, pendCopies := copies } ∧
    v.toNat = min 65535 (s.speech.handoffLapsed.toNat + 1) := by
  obtain ⟨v, copies, h, hv⟩ := count_eq { s.speech with
    record := { s.speech.record with state := .cancelled }
    recWrites := s.speech.recWrites ++ [.state s.speech.record.seq .cancelled s.speech.record.part]
    doneWanted := false, donePending := false } .handoffLapsed 1
  exact ⟨v, copies, h, hv⟩

theorem spoken_lapsed (s : State) : (lapsed s).spoken = s.spoken := by
  have hdrop : (lapsed s).spoken = (dropDone (takeExpiry .handoffWait s)).spoken := rfl
  rw [hdrop, spoken_dropDone]
  rfl

/-- What a lapse leaves once the pause that follows it has begun. -/
theorem lapse_settled {s : State} (hcalm : s.calm) :
    let t := settle (trailingPause (lapsed s))
    t.speech.record = { s.speech.record with state := .cancelled } ∧
      t.speech.handoffLapsed.toNat = min 65535 (s.speech.handoffLapsed.toNat + 1) ∧
      (t.clock.get .handoffWait).state = .idle ∧ t.speech.queue = s.speech.queue ∧ t.engine = s.engine ∧
      t.lc = s.lc ∧ t.audio = { s.audio with mark := t.audio.mark } := by
  obtain ⟨v, copies, hspeech, hv⟩ := lapsed_speech s
  have hcalm' : (trailingPause (lapsed s)).calm :=
    calm_of_spoken (spoken_trailingPause _) (calm_of_spoken (spoken_lapsed s) hcalm)
  have hphrased := unphrased_trailingPause (lapsed s)
  have h := unplanned_of_unphrased hphrased
  have hrecord := speech_of_unplanned Speech.record (fun _ => rfl) h
  have hcount := speech_of_unplanned Speech.handoffLapsed (fun _ => rfl) h
  have hqueue := speech_of_unplanned Speech.queue (fun _ => rfl) h
  rw [hspeech] at hrecord hcount hqueue
  intro t
  refine ⟨(LessonClock.settle_record _).trans hrecord, ?_, LessonClock.settle_timer_idle _ ?_,
    (LessonClock.settle_queue _).trans hqueue,
    (LessonClock.settle_engine _ hcalm'.1).trans ((engine_of_unphrased hphrased).trans rfl),
    (Deck.settle_lc hcalm').trans ((lc_of_unplanned h).trans rfl), ?_⟩
  · rw [settle_speech Speech.handoffLapsed (fun _ => rfl), hcount, hv]
  · rw [clock_of_unplanned h]; rfl
  · rw [LessonClock.settle_audio]
    exact (audio_of_unplanned h).trans rfl

/-! ### RESTART expires (R187) -/

theorem restartExpiry_none {s : State} (h : s.clock.restart.expired = false) :
    exec .restartExpiry s = .next s := congrArg Host.Outcome.next (onExpiry_none (n := .restart) h)

theorem restartExpiry_taken {s : State} (h : s.clock.restart.expired = true) :
    exec .restartExpiry s = .next (settle (restartExpired (takeExpiry .restart s))) :=
  congrArg Host.Outcome.next (onExpiry_taken (n := .restart) h)

section
variable {s : State} {u : Utterance} {us : List Utterance}

/-- Under hush nothing is replayed. -/
theorem restartExpired_hush (h : s.hush = true) : restartExpired s = s := by simp [restartExpired, h]

variable (hs : s.speech.state = .hushed) (hh : s.hush = false) (hq : s.speech.queue = u :: us)
include hs hh hq

/-- A held utterance is started, replayed at its phrase, or planned from its start. -/
theorem restartExpired_queued (hp : u.playing = false) : restartExpired s = startHead s := by
  simp [restartExpired, hs, hh, hq, hp]

theorem restartExpired_phrase {n : Nat} (hp : u.playing = true) (hplanned : s.speech.planned = true)
    (hr : s.speech.replay = .phrase n) : restartExpired s = beginPhrase n true s := by
  simp [restartExpired, hs, hh, hq, hp, hplanned, hr]

theorem restartExpired_start (hp : u.playing = true) (h : s.speech.planned = false ∨ s.speech.replay = .start) :
    restartExpired s = makePlan s := by
  unfold restartExpired
  simp only [hs, hh, hq, hp]
  rcases h with h | h
  · simp [h]
  · cases hplanned : s.speech.planned <;> simp [h]

end

/-- The part with the head PLAYING and these settings: the one whose plan is made. -/
def playing (c : SpeechSettings) (s : State) : State := s.onSpeech (playHead c)

theorem playHead_self {s : State} {u : Utterance} {us : List Utterance} (hq : s.speech.queue = u :: us)
    (hp : u.playing = true) : playing s.speech.settings s = s := by
  have hu : { u with playing := true } = u := by cases u; simp_all
  have hc : playHead s.speech.settings s.speech = s.speech := by
    simp only [playHead, hq, hu]
    rw [← hq]
  exact congrArg (fun c => { s with speech := c }) hc

/-- A held utterance with no phrase to go on from is planned, with its settings or those of the active context. -/
theorem restartExpired_plans {s : State} {u : Utterance} {us : List Utterance} (hs : s.speech.state = .hushed)
    (hh : s.hush = false) (hq : s.speech.queue = u :: us)
    (h : u.playing = false ∨ s.speech.planned = false ∨ s.speech.replay = .start) :
    restartExpired s = makePlan (playing (if u.playing then s.speech.settings else SpeechSettings.of s.lc.active) s) := by
  cases hp : u.playing with
  | false => exact restartExpired_queued hs hh hq hp
  | true =>
    rw [if_pos rfl, playHead_self hq hp]
    exact restartExpired_start hs hh hq hp (h.resolve_left (by simp [hp]))

section
variable {s : State} {u : Utterance} {us : List Utterance} (c : SpeechSettings) (hq : s.speech.queue = u :: us)

theorem playing_queue (hq : s.speech.queue = u :: us) : (playing c s).speech.queue = { u with playing := true } :: us := by
  simp [playing, playHead, hq]

variable (s) in
theorem playing_bank : (playing c s).speech.bank = s.speech.bank := by
  simp only [playing, playHead, State.onSpeech_speech, Speech.bank]
  cases s.speech.queue <;> rfl

variable (s) in
theorem reads_playing : reads (playing c s) = partString s.audio.directory s.speech.bank c := by
  rw [← playing_bank s c]
  rfl

variable (s) in
theorem makes_playing (ps : List Part) :
    makes (playing c s) ps = ps.flatMap (partPlan s.audio.directory s.speech.bank c) := by
  rw [← playing_bank s c]
  rfl

include hq

theorem makePlan_playing_reads {front rest : List Part} {p : Part} {ref : Nat} (hu : u.parts = front ++ p :: rest)
    (hfront : ∀ x ∈ front, partString s.audio.directory s.speech.bank c x = none)
    (hp : partString s.audio.directory s.speech.bank c p = some ref) :
    ∃ e, makePlan (playing c s) =
      planReads (front.flatMap (partPlan s.audio.directory s.speech.bank c)) ref rest e (playing c s) := by
  rw [← reads_playing s c] at hfront hp
  rw [← makes_playing s c]
  exact makePlan_reads (u := { u with playing := true }) (playing_queue c hq) hu hfront hp

theorem makePlan_playing_whole (h : ∀ x ∈ u.parts, partString s.audio.directory s.speech.bank c x = none) :
    ∃ e, makePlan (playing c s) =
      beginPlan (planMade (u.parts.flatMap (partPlan s.audio.directory s.speech.bank c)) e (playing c s)) := by
  rw [← reads_playing s c] at h
  rw [← makes_playing s c]
  exact makePlan_whole (u := { u with playing := true }) (playing_queue c hq) h

/-- The plan of a head that is PLAYING with these settings goes on from its first part. -/
theorem planGoesOn_makePlan : s.planGoesOn (settle (makePlan (playing c s))) c [] u.parts := by
  refine ⟨fun front p rest hu hfront ref hp => ?reads, fun h hne => ?whole⟩
  case reads =>
    obtain ⟨e, hm⟩ := makePlan_playing_reads c hq hu hfront hp
    rw [hm, settle_speech Speech.plan (fun _ => rfl), settle_speech Speech.planned (fun _ => rfl),
      settle_speech Speech.strRef (fun _ => rfl), settle_speech Speech.strBytes (fun _ => rfl),
      settle_speech Speech.parts (fun _ => rfl)]
    exact ⟨rfl, rfl, rfl, rfl, rfl⟩
  case whole =>
    obtain ⟨e, hm⟩ := makePlan_playing_whole c hq h
    obtain ⟨hplan, hplanned, hphrase, hlast, hstr⟩ := beginPhrase_kept 0
      (planMade (u.parts.flatMap (partPlan s.audio.directory s.speech.bank c)) e (playing c s)) false
    rw [hm.trans (beginPlan_ne hne), settle_speech Speech.plan (fun _ => rfl), settle_speech Speech.planned (fun _ => rfl),
      settle_speech Speech.strRef (fun _ => rfl), settle_speech Speech.phrase (fun _ => rfl),
      settle_speech Speech.last (fun _ => rfl), settle_speech Speech.state (fun _ => rfl)]
    exact ⟨hplan, hplanned, hstr, hphrase, hlast.trans (by simp [planMade, eq_comm]), beginPhrase_state 0 _ false⟩

/-- A plan that a string is read for stays in GATHER. -/
theorem makePlan_playing_gather (h : ∃ x ∈ u.parts, partString s.audio.directory s.speech.bank c x ≠ none) :
    (makePlan (playing c s)).speech.state = .gather := by
  obtain ⟨x, hx, hread⟩ := h
  rcases reads_cases (playing c s) u.parts with hnone | ⟨front, p, rest, ref, hu, hfront, hp⟩
  · rw [reads_playing] at hnone
    exact absurd (hnone x hx) hread
  · rw [reads_playing] at hfront hp
    obtain ⟨e, hm⟩ := makePlan_playing_reads c hq hu hfront hp
    rw [hm]
    rfl

/-- With no phrase to speak the end mark is placed at once. -/
theorem makePlan_playing_nil (hnil : u.parts.flatMap (partPlan s.audio.directory s.speech.bank c) = [])
    (h : ∀ x ∈ u.parts, partString s.audio.directory s.speech.bank c x = none) :
    ∃ w, makePlan (playing c s) = awaitEnd w ∧ w.audio = s.audio := by
  obtain ⟨e, hm⟩ := makePlan_playing_whole c hq h
  exact ⟨_, hm.trans (beginPlan_nil hnil), rfl⟩

end

/-! ### O17 -/

theorem restartTimer_settle {s t : State} (ht : t.clock = (takeExpiry .restart s).clock) :
    (settle t).clock.restart.expired = false := by
  obtain ⟨runs, hr⟩ := LessonClock.settle_timer t .restart
  have hexpired : (t.clock.get .restart).expired = false := by rw [ht]; rfl
  exact (congrArg Timer.expired hr).trans ((LessonClock.retime_expired _ runs).trans hexpired)

/-- A replay at phrase n: gathered afresh and ramped in, or a hand-off to be requested again. -/
theorem replay_settled (n : Nat) (s : State) :
    let t := settle (beginPhrase n true s)
    t.speech.plan = s.speech.plan ∧ t.speech.planned = s.speech.planned ∧ t.speech.phrase = n ∧
      t.speech.last = decide (n + 1 = s.speech.plan.length) ∧
      if (s.speech.plan.getD n {}).handoff = none then
        t.speech.state ∈ [ComposerState.gather, .fill, .play] ∧ t.speech.ramp = 1 ∧ t.audio = s.audio
      else t.speech.state = .handoff ∧ t.speech.waitMark = true ∧ t.audio.mark = some s.audio.buffer.length := by
  obtain ⟨hplan, hplanned, hphrase, hlast, -⟩ := beginPhrase_kept n s true
  dsimp only
  rw [settle_speech Speech.plan (fun _ => rfl), settle_speech Speech.planned (fun _ => rfl),
    settle_speech Speech.phrase (fun _ => rfl), settle_speech Speech.last (fun _ => rfl),
    settle_speech Speech.state (fun _ => rfl), settle_speech Speech.ramp (fun _ => rfl),
    settle_speech Speech.waitMark (fun _ => rfl), LessonClock.settle_audio]
  refine ⟨hplan, hplanned, hphrase, hlast, ?_⟩
  split
  next h =>
    rw [beginPhrase_units true h]
    obtain ⟨-, -, -, -, hramp, -, haudio, -⟩ := gatherMore_kept (s.onSpeech (opening .gather n true))
    exact ⟨gatherMore_state rfl, hramp.trans (by simp [opening, Speech.display]), haudio⟩
  next h =>
    rw [beginPhrase_handoff true h]
    exact ⟨rfl, rfl, rfl⟩

/-- The head of a replay or a start, and its settings. -/
theorem restartExpired_kept {s : State} {u : Utterance} {us : List Utterance} (hs : s.speech.state = .hushed)
    (hh : s.hush = false) (hq : s.speech.queue = u :: us) :
    unplanned (restartExpired s) =
        unplanned (playing (if u.playing then s.speech.settings else SpeechSettings.of s.lc.active) s) ∧
      (restartExpired s).speech.state ∈ [ComposerState.gather, .fill, .play, .handoff, .gap] := by
  by_cases h : u.playing = false ∨ s.speech.planned = false ∨ s.speech.replay = .start
  · rw [restartExpired_plans hs hh hq h]
    exact ⟨unplanned_makePlan _, makePlan_state (playing_queue _ hq)⟩
  · obtain ⟨hp, hplanned, hr⟩ : u.playing = true ∧ s.speech.planned = true ∧ s.speech.replay ≠ .start := by simpa using h
    cases hreplay : s.speech.replay with
    | start => exact absurd hreplay hr
    | phrase n =>
      rw [restartExpired_phrase hs hh hq hp hplanned hreplay, if_pos hp, playHead_self hq hp]
      exact ⟨unplanned_of_unphrased (unphrased_beginPhrase n s true),
        List.mem_append_left [ComposerState.gap] (beginPhrase_state n s true)⟩

/-- Settles O17: a lapse leaves `lapse_settled` and the trailing pause that `trailingPause_pos`, `trailingPause_last` and
`trailingPause_next` tell apart; a RESTART expiry replays a phrase (`replay_settled`) or makes the plan from its first part
(`restartExpired_plans`, `planGoesOn_makePlan`). -/
theorem composerExpiries : Obligations.ComposerExpiries := by
  refine ⟨fun s hcalm => ⟨handoffWaitExpiry_none, fun h hr => ?lapse,
      fun h hr => ⟨_, handoffWaitExpiry_over h hr, ?unrequested⟩⟩,
    fun s => ⟨restartExpiry_none, fun u us h hs hq hh => ⟨_, restartExpiry_taken h, ?restart⟩,
      fun h hh hcalm => ⟨_, restartExpiry_taken h, ?hushed⟩⟩⟩
  case unrequested => exact bare_settle _ hcalm
  case hushed =>
    rw [restartExpired_hush (s := takeExpiry .restart s) hh]
    exact bare_settle _ hcalm
  case lapse =>
    obtain ⟨hrecord, hcount, htimer, hqueue, hengine, hlc, haudio⟩ := lapse_settled hcalm
    obtain ⟨v, copies, hspeech, -⟩ := lapsed_speech s
    have hpause : pauseOf (lapsed s).speech = pauseOf s.speech := by rw [hspeech]; rfl
    have hlast : (lapsed s).speech.last = s.speech.last := by rw [hspeech]
    refine ⟨_, handoffWaitExpiry_lapses h hr, hrecord, hcount, htimer, hqueue, hengine, hlc, haudio,
      fun hp => ?pause, fun hp hl => ?final, fun hp hl => ?next⟩
    case pause =>
      have hpos : 0 < pauseOf (lapsed s).speech := by rw [hpause]; exact hp
      rw [trailingPause_pos hpos, settle_speech Speech.state (fun _ => rfl), settle_speech Speech.gap (fun _ => rfl),
        settle_speech Speech.gapLeft (fun _ => rfl), LessonClock.settle_audio]
      exact ⟨rfl, rfl, hpause, rfl⟩
    case final =>
      rw [trailingPause_last (hpause.trans hp) (hlast.trans hl)]
      obtain ⟨hstate, -, hmark, hout⟩ := finalMark_awaitEnd (w := (lapsed s).onSpeech (pausing .trailing 0)) rfl
      exact ⟨hstate, hmark, hout ▸ rfl⟩
    case next =>
      rw [trailingPause_next (hpause.trans hp) (hlast.trans hl), settle_speech Speech.phrase (fun _ => rfl),
        settle_speech Speech.state (fun _ => rfl)]
      obtain ⟨-, -, hphrase, -, -⟩ :=
        beginPhrase_kept ((lapsed s).speech.phrase + 1) ((lapsed s).onSpeech (pausing .trailing 0)) false
      exact ⟨hphrase.trans (by rw [hspeech]), beginPhrase_state _ _ false⟩
  case restart =>
    let w := takeExpiry .restart s
    obtain ⟨hkept, hstate⟩ := restartExpired_kept (s := w) hs hh hq
    have hqueue := speech_of_unplanned Speech.queue (fun _ => rfl) hkept
    have hsettings := speech_of_unplanned Speech.settings (fun _ => rfl) hkept
    have hclock : (restartExpired w).clock = w.clock := (clock_of_unplanned hkept).trans rfl
    refine ⟨?_, ?_, fun hp => ?_, fun hp => ?_, restartTimer_settle hclock, fun n hp hplanned hr => ?replay, fun hp => ?plan⟩
    · rw [settle_speech Speech.state (fun _ => rfl)]
      exact fun hi => by simp [w, hi] at hstate
    · rw [LessonClock.settle_queue]
      exact hqueue.trans (playing_queue _ hq)
    · rw [settle_speech Speech.settings (fun _ => rfl)]
      exact hsettings.trans (if_neg (by simp [hp]))
    · rw [settle_speech Speech.settings (fun _ => rfl)]
      exact hsettings.trans (if_pos hp)
    case replay =>
      rw [restartExpired_phrase (s := w) hs hh hq hp hplanned hr]
      obtain ⟨h1, h2, h3⟩ := replay_settled n w
      exact ⟨h1, h2.trans hplanned, h3⟩
    case plan =>
      intro c
      rw [restartExpired_plans (s := w) hs hh hq hp]
      have hc : (if u.playing then w.speech.settings else SpeechSettings.of w.lc.active) = c := rfl
      rw [hc]
      refine ⟨planGoesOn_makePlan (s := w) c hq, fun hx => ?_, fun hnil hx => ?_⟩
      · rw [settle_speech Speech.state (fun _ => rfl)]
        exact makePlan_playing_gather (s := w) c hq hx
      · obtain ⟨e, he, hout⟩ := makePlan_playing_nil (s := w) c hq hnil hx
        rw [settle_speech Speech.state (fun _ => rfl), settle_speech Speech.waitMark (fun _ => rfl),
          LessonClock.settle_audio, he]
        exact ⟨rfl, rfl, congrArg (fun a : Audio => some a.buffer.length) hout⟩

end Sys2Proof.Machine.Composer
end

section
/-! Placement and cut of utterances (R165, R166, R169, R188). -/
namespace Sys2Proof.Machine.Composer

/-! ### What a start leaves alone (R167) -/

theorem tryStart_speech {α : Type} (f : Speech → α) (hf : ∀ c, f (standing c) = f c) (hplay : ∀ st c, f (playHead st c) = f c)
    (s : State) : f (tryStart s).speech = f s.speech := by
  rcases tryStart_cases s with h | ⟨-, h⟩
  · rw [h]
  · rw [h]
    exact (speech_of_unplanned f hf (unplanned_startHead s)).trans (hplay _ _)

theorem tryStart_clock (s : State) : (tryStart s).clock = s.clock := by
  rcases tryStart_cases s with h | ⟨-, h⟩
  · rw [h]
  · rw [h]
    exact (clock_of_unplanned (unplanned_startHead s)).trans rfl

theorem tryStart_buffer (s : State) : (tryStart s).audio.buffer = s.audio.buffer := by
  rcases tryStart_cases s with h | ⟨-, h⟩
  · rw [h]
  · rw [h]
    exact (buffer_of_unplanned (unplanned_startHead s)).trans rfl

/-- A queue without the difference between QUEUED and PLAYING. -/
def stripped (q : List Utterance) : List Utterance := q.map fun v => { v with playing := false }

theorem stripped_append (p q : List Utterance) : stripped (p ++ q) = stripped p ++ stripped q := List.map_append

theorem stripped_playHead (st : SpeechSettings) (c : Speech) : stripped (playHead st c).queue = stripped c.queue := by
  simp only [playHead]
  cases c.queue <;> rfl

/-! ### Room in the queue (R166) -/

/-- The youngest entry that a test admits is removed. -/
theorem removeYoungest_append {test : Utterance → Bool} {a b : List Utterance} {v : Utterance} (hv : test v = true)
    (hb : ∀ x ∈ b, ¬ test x = true) : removeYoungest test (a ++ v :: b) = a ++ b := by
  have hb' : ∀ x ∈ b.reverse, ¬ test x = true := fun x hx => hb x (List.mem_reverse.1 hx)
  simp [removeYoungest, List.eraseP_append_right _ hb', List.eraseP_cons_of_pos hv]

/-- The room that a kind finds which may take the place of an entry that the test admits. -/
def room (test : Utterance → Bool) (q : List Utterance) : Option (List Utterance × Nat) :=
  if q.length < 4 then some (q, 0) else if q.any test then some (removeYoungest test q, 1) else none

section
variable {test : Utterance → Bool} {q : List Utterance}

theorem room_free (h : q.length < 4) : room test q = some (q, 0) := if_pos h

theorem room_youngest {a b : List Utterance} {v : Utterance} (h : 4 ≤ q.length) (hq : q = a ++ v :: b) (hv : test v = true)
    (hb : ∀ x ∈ b, ¬ test x = true) : room test q = some (a ++ b, 1) := by
  have hany : q.any test = true := List.any_eq_true.2 ⟨v, by simp [hq], hv⟩
  rw [room, if_neg (Nat.not_lt.2 h), if_pos hany, hq, removeYoungest_append hv hb]

theorem room_none (h : 4 ≤ q.length) (hno : ∀ x ∈ q, ¬ test x = true) : room test q = none := by
  have hany : ¬ q.any test = true := fun hex => by
    obtain ⟨x, hx, ht⟩ := List.any_eq_true.1 hex
    exact hno x hx ht
  rw [room, if_neg (Nat.not_lt.2 h), if_neg hany]

end

theorem not_full (q : List Utterance) : (!decide (Config.utteranceDepth ≤ q.length)) = decide (q.length < 4) := by
  rw [← decide_not]
  exact decide_eq_decide.2 Nat.not_le

/-- Echoes and cues may take a QUEUED echo's place. -/
theorem roomFor_brief {kind : UtteranceKind} (h : kind ∈ [UtteranceKind.echo, .cue]) (q : List Utterance) :
    roomFor kind q = room Utterance.looseEcho q := by
  simp only [List.mem_cons, List.not_mem_nil, or_false] at h
  rcases h with rfl | rfl <;> simp only [roomFor, not_full, decide_eq_true_eq] <;> rfl

/-- Prompts and SAYs may take a QUEUED echo's or cue's place. -/
theorem roomFor_spoken {kind : UtteranceKind} (h : kind ∈ [UtteranceKind.prompt, .say]) (q : List Utterance) :
    roomFor kind q = room Utterance.loose q := by
  simp only [List.mem_cons, List.not_mem_nil, or_false] at h
  rcases h with rfl | rfl <;> simp only [roomFor, not_full, decide_eq_true_eq] <;> rfl

/-- A feedback has the room that the queue has without its QUEUED echoes and cues. -/
theorem roomFor_feedback (q : List Utterance) : roomFor .feedback q =
    if (q.filter (!·.loose)).length < 4 then some (q.filter (!·.loose), 0) else none := rfl

theorem looseEcho_iff (v : Utterance) : v.looseEcho = true ↔ v.playing = false ∧ v.kind = .echo := by
  simp [Utterance.looseEcho]

theorem loose_iff (v : Utterance) : v.loose = true ↔ v.playing = false ∧ (v.kind = .echo ∨ v.kind = .cue) := by
  simp [Utterance.loose]

/-! ### Placement (R165, R166) -/

section
variable (kind : UtteranceKind) (parts : List Part) (s : State)

/-- The entry that a placement makes. -/
def entry : Utterance :=
  { seq := (s.speech.seq + 1) % 256, kind := kind, parts := parts, bank := s.lc.active.bank }

/-- A placement has been taken behind these entries, so many echoes and cues lost. -/
def Taken (l : List Utterance) (lost : Nat) : Prop :=
  (place kind parts s).2 = some ((s.speech.seq + 1) % 256) ∧ (place kind parts s).1.speech.seq = (s.speech.seq + 1) % 256 ∧
    stripped (place kind parts s).1.speech.queue = stripped l ++ [entry kind parts s] ∧
    (place kind parts s).1.speech.echoDropped.toNat = min 65535 (s.speech.echoDropped.toNat + lost)

/-- A placement has been refused, so many echoes and cues lost. -/
def Refused (lost : Nat) : Prop :=
  (place kind parts s).2 = none ∧ (place kind parts s).1.speech.seq = s.speech.seq ∧
    (place kind parts s).1.speech.queue = s.speech.queue ∧
    (place kind parts s).1.speech.echoDropped.toNat = min 65535 (s.speech.echoDropped.toNat + lost)

/-- The part with the entry at the tail. -/
def placed (q : List Utterance) (lost : Nat) : State :=
  s.onSpeech fun c =>
    ({ c with queue := q ++ [entry kind parts s], seq := (s.speech.seq + 1) % 256 } : Speech).count .echoDropped lost

variable {kind parts s}

theorem place_some {q : List Utterance} {lost : Nat} (hh : ¬ (kind.hushRefuses = true ∧ s.hush = true))
    (h : roomFor kind s.speech.queue = some (q, lost)) : place kind parts s =
      (if (placed kind parts s q lost).hush ∧ (placed kind parts s q lost).speech.state = .idle then
        (placed kind parts s q lost).onSpeech fun c =>
          ({ c with replay := .start } : Speech).display .hushed c.phrase c.last
      else tryStart (placed kind parts s q lost), some ((s.speech.seq + 1) % 256)) := by
  rw [place, if_neg hh, h]
  rfl

theorem taken_of_room {q : List Utterance} {lost : Nat} (hh : ¬ (kind.hushRefuses = true ∧ s.hush = true))
    (h : roomFor kind s.speech.queue = some (q, lost)) : Taken kind parts s q lost := by
  obtain ⟨v, copies, hc, hv⟩ := count_eq
    { s.speech with queue := q ++ [entry kind parts s], seq := (s.speech.seq + 1) % 256 } .echoDropped lost
  have hspeech : (placed kind parts s q lost).speech =
    tally .echoDropped v copies { s.speech with queue := q ++ [entry kind parts s], seq := (s.speech.seq + 1) % 256 } := hc
  have hstrip : stripped (q ++ [entry kind parts s]) = stripped q ++ [entry kind parts s] := stripped_append q _
  unfold Taken
  rw [place_some hh h]
  dsimp only
  split
  · rw [State.onSpeech_speech, hspeech]
    exact ⟨rfl, rfl, hstrip, hv⟩
  · rw [tryStart_speech Speech.seq (fun _ => rfl) (fun _ _ => rfl),
      tryStart_speech (fun c => stripped c.queue) (fun _ => rfl) stripped_playHead,
      tryStart_speech Speech.echoDropped (fun _ => rfl) (fun _ _ => rfl), hspeech]
    exact ⟨rfl, rfl, hstrip, hv⟩

theorem refused_of_count {lost : Nat} (h : place kind parts s = (s.onSpeech (·.count .echoDropped lost), none)) :
    Refused kind parts s lost := by
  obtain ⟨v, copies, hc, hv⟩ := count_eq s.speech .echoDropped lost
  unfold Refused
  rw [h]
  simp only [State.onSpeech_speech, hc]
  exact ⟨trivial, rfl, rfl, hv⟩

theorem refused_of_hush (hk : kind.hushRefuses = true) (hh : s.hush = true) : Refused kind parts s 1 :=
  refused_of_count (by simp [place, hk, hh])

theorem refused_of_room (h : roomFor kind s.speech.queue = none) (hh : ¬ (kind.hushRefuses = true ∧ s.hush = true)) :
    Refused kind parts s (if kind.hushRefuses then 1 else 0) :=
  refused_of_count (by rw [place, if_neg hh, h])

end

/-! ### Cut (R169, R188) -/

section
variable {seq : Nat} {s : State} {u : Utterance} {us : List Utterance} (hq : s.speech.queue = u :: us)
include hq

/-- A cut of another entry than the head leaves the head. -/
theorem cut_behind (h : u.seq ≠ seq) : cut seq s =
    { s with speech := { s.speech with queue := u :: us.filter fun v => decide (v.seq ≠ seq) } } := by
  have hf : s.speech.queue.filter (·.seq ≠ seq) = u :: us.filter fun v => decide (v.seq ≠ seq) := by
    rw [hq, List.filter_cons_of_pos (by simpa using h)]
  simp [cut, hq, h, cutQueued, State.onSpeech]

theorem cut_held (h : u.seq = seq) (hs : s.speech.state = .hushed) : cut seq s = cutHeld s := by
  simp [cut, hq, h, hs]

theorem cut_playing (h : u.seq = seq) (hs : s.speech.state ≠ .hushed) (hp : u.playing = true) :
    cut seq s = cutPlaying s := by
  simp [cut, hq, h, hs, hp]

end

theorem cut_unnamed {seq : Nat} {s : State} (h : ∀ v ∈ s.speech.queue, v.seq ≠ seq) : cut seq s = s := by
  cases hq : s.speech.queue with
  | nil => simp [cut, hq]
  | cons u us =>
    rw [hq] at h
    have hf : us.filter (fun v => decide (v.seq ≠ seq)) = us :=
      List.filter_eq_self.2 fun v hv => by simpa using h v (List.mem_cons_of_mem u hv)
    rw [cut_behind hq (h u List.mem_cons_self), hf, ← hq]

/-- The part with its held head gone. -/
def unheld (s : State) : State := s.onSpeech fun c => { c.clearPlan with queue := c.queue.tail, replay := .start }

theorem cutHeld_nil {s : State} (h : s.speech.queue.tail = []) :
    cutHeld s = cancel .restart ((unheld s).onSpeech Speech.goIdle) :=
  if_pos h

theorem cutHeld_ne {s : State} (h : s.speech.queue.tail ≠ []) : cutHeld s = unheld s := if_neg h

/-- The part with its PLAYING head gone, its hand-off cancelled and the buffer ramped down (R169 steps 1 to 4). -/
def cutOff (s : State) : State :=
  (LessonClock.halted (cutRamp s)).onSpeech fun c => { c.clearPlan with queue := c.queue.tail }

/-- The length of the switch gap. -/
def switchOf (c : Speech) : Nat := gapSamples c.settings c.settings.switchGap

theorem cutOff_speech (s : State) : ∃ writes wanted pending, (cutOff s).speech = { s.speech.clearPlan with
    queue := s.speech.queue.tail
    record := if s.speech.record.state = .requested then { s.speech.record with state := .cancelled } else s.speech.record
    recWrites := writes, doneWanted := wanted, donePending := pending } := by
  obtain ⟨writes, wanted, pending, h⟩ := LessonClock.halted_speech (cutRamp s)
  refine ⟨writes, wanted, pending, ?_⟩
  simp only [cutOff, State.onSpeech_speech, h]
  rfl

theorem cutOff_audio (s : State) : (cutOff s).audio = (cutRamp s).audio := LessonClock.halted_audio (cutRamp s)
theorem cutOff_lc (s : State) : (cutOff s).lc = s.lc := LessonClock.halted_lc (cutRamp s)
theorem cutOff_engine (s : State) : (cutOff s).engine = s.engine := LessonClock.halted_engine (cutRamp s)

section
variable {s : State}

theorem cutPlaying_nil (h : s.speech.queue.tail = []) : cutPlaying s = (cutOff s).onSpeech Speech.goIdle := by
  obtain ⟨writes, wanted, pending, hspeech⟩ := cutOff_speech s
  exact if_pos (show (cutOff s).speech.queue = [] by rw [hspeech]; exact h)

theorem cutPlaying_ne (h : s.speech.queue.tail ≠ []) : cutPlaying s = enterGap .switch (switchOf s.speech) (cutOff s) := by
  obtain ⟨writes, wanted, pending, hspeech⟩ := cutOff_speech s
  have hswitch : switchOf (cutOff s).speech = switchOf s.speech := by rw [hspeech]; rfl
  rw [← hswitch]
  exact if_neg (show ¬ (cutOff s).speech.queue = [] by rw [hspeech]; exact h)

theorem cutPlaying_pos (h : s.speech.queue.tail ≠ []) (hpos : 0 < switchOf s.speech) :
    cutPlaying s = (cutOff s).onSpeech (pausing .switch (switchOf s.speech)) := by
  rw [cutPlaying_ne h, enterGap_pos .switch hpos]

/-- With no switch gap the next head starts at once (R177). -/
theorem cutPlaying_pauseless (h : s.speech.queue.tail ≠ []) (hz : switchOf s.speech = 0) :
    cutPlaying s = tryStart (((cutOff s).onSpeech (pausing .switch 0)).onSpeech switched) := by
  rw [cutPlaying_ne h, hz, enterGap_zero, finishGap_switch rfl]

/-- However the composer goes on, the record, the clock and the buffer are those of the head's going. -/
theorem cutPlaying_kept (s : State) : (cutPlaying s).speech.record = (cutOff s).speech.record ∧
    (cutPlaying s).clock = (cutOff s).clock ∧ (cutPlaying s).audio.buffer = (cutOff s).audio.buffer := by
  by_cases h : s.speech.queue.tail = []
  · rw [cutPlaying_nil h]
    exact ⟨rfl, rfl, rfl⟩
  rcases Nat.eq_zero_or_pos (switchOf s.speech) with hz | hpos
  · rw [cutPlaying_pauseless h hz, tryStart_speech Speech.record (fun _ => rfl) (fun _ _ => rfl), tryStart_clock,
      tryStart_buffer]
    exact ⟨rfl, rfl, rfl⟩
  · rw [cutPlaying_pos h hpos]
    exact ⟨rfl, rfl, rfl⟩

end

/-! ### O55 -/

/-- Settles O55: a placement is `taken_of_room` or refused as the room of its kind says (`room_free`, `room_youngest`,
`room_none`, `roomFor_feedback`); a cut is `cut_behind`, `cutHeld`, or `cutPlaying` with what `cutPlaying_kept` keeps. -/
theorem cutAndPlacement : Obligations.CutAndPlacement := by
  refine ⟨fun kind parts s => ?place, fun seq s => ⟨cut_unnamed, fun u us hq => ?cut⟩⟩
  case place =>
    intro q r strip seq new taken refused echo loose
    have htaken : ∀ {l lost}, ¬ (kind.hushRefuses = true ∧ s.hush = true) → roomFor kind q = some (l, lost) → taken l lost :=
      fun hh h => taken_of_room hh h
    refine ⟨fun hk => ?brief, fun hk => ?spoken, fun hk => ?feedback⟩
    case brief =>
      have hrefuses : kind.hushRefuses = true := by
        simp only [List.mem_cons, List.not_mem_nil, or_false] at hk
        rcases hk with rfl | rfl <;> rfl
      have hroom := roomFor_brief hk q
      have hquiet : s.hush = false → ¬ (kind.hushRefuses = true ∧ s.hush = true) := fun h => by simp [h]
      refine ⟨refused_of_hush hrefuses, fun hh hl => htaken (hquiet hh) (hroom.trans (room_free hl)),
        fun a v b hh hl hqe hv hb => htaken (hquiet hh) (hroom.trans (room_youngest hl hqe ((looseEcho_iff v).2 hv) ?_)),
        fun hh hl hno => ?_⟩
      · exact fun x hx ht => hb x hx ((looseEcho_iff x).1 ht)
      · have hnone := room_none hl fun x hx ht => hno x hx ((looseEcho_iff x).1 ht)
        have h := refused_of_room (parts := parts) (hroom.trans hnone) (hquiet hh)
        rwa [if_pos hrefuses] at h
    case spoken =>
      have hrefuses : kind.hushRefuses = false := by
        simp only [List.mem_cons, List.not_mem_nil, or_false] at hk
        rcases hk with rfl | rfl <;> rfl
      have hroom := roomFor_spoken hk q
      have hquiet : ¬ (kind.hushRefuses = true ∧ s.hush = true) := by simp [hrefuses]
      refine ⟨fun hl => htaken hquiet (hroom.trans (room_free hl)),
        fun a v b hl hqe hv hb => htaken hquiet (hroom.trans (room_youngest hl hqe ((loose_iff v).2 hv) ?_)),
        fun hl hno => ?_⟩
      · exact fun x hx ht => hb x hx ((loose_iff x).1 ht)
      · have hnone := room_none hl fun x hx ht => hno x hx ((loose_iff x).1 ht)
        have h := refused_of_room (parts := parts) (hroom.trans hnone) hquiet
        rwa [if_neg (by simp [hrefuses])] at h
    case feedback =>
      subst hk
      intro kept
      have hkept : kept = q.filter (!·.loose) := by
        refine List.filter_congr fun v _ => ?_
        rw [decide_not, ← congrFun LessonClock.loose_eq v]
      have hquiet : ¬ (UtteranceKind.feedback.hushRefuses = true ∧ s.hush = true) := by simp [UtteranceKind.hushRefuses]
      rw [hkept]
      refine ⟨fun hl => htaken hquiet ((roomFor_feedback q).trans (if_pos hl)), fun hl => ?_⟩
      exact refused_of_room (parts := parts) ((roomFor_feedback q).trans (if_neg (Nat.not_lt.2 hl))) hquiet
  case cut =>
    have htail : s.speech.queue.tail = us := by rw [hq]; rfl
    obtain ⟨writes, wanted, pending, hspeech⟩ := cutOff_speech s
    refine ⟨cut_behind hq, fun h hs => ?held, fun h hs hp => ?playing, fun v vs h hs hp hus hv hh hz => ?pauseless⟩
    case held =>
      rw [cut_held hq h hs]
      by_cases hus : us = []
      · rw [cutHeld_nil (htail.trans hus), hus]
        exact ⟨rfl, rfl, htail.trans hus, fun _ => ⟨rfl, rfl⟩, fun hne => absurd rfl hne⟩
      · rw [cutHeld_ne (htail ▸ hus)]
        exact ⟨rfl, rfl, htail, fun hnil => absurd hnil hus, fun _ => ⟨hs, rfl, rfl⟩⟩
    case playing =>
      rw [cut_playing hq h hs hp]
      obtain ⟨hrecord, hclock, hbuffer⟩ := cutPlaying_kept s
      refine ⟨hbuffer.trans (congrArg Audio.buffer (cutOff_audio s)), fun hgap => ?gone, fun hnil => ?nil,
        fun hne hpos => ?gap, fun hr => ⟨?record, ?timer⟩⟩
      case gone =>
        by_cases hnil : us = []
        · rw [cutPlaying_nil (htail.trans hnil)]
          exact ⟨congrArg Audio.mark (cutOff_audio s), rfl, cutOff_lc s, cutOff_engine s⟩
        · rw [cutPlaying_pos (htail ▸ hnil) (hgap.resolve_left hnil)]
          exact ⟨congrArg Audio.mark (cutOff_audio s), rfl, cutOff_lc s, cutOff_engine s⟩
      case nil =>
        rw [cutPlaying_nil (htail.trans hnil)]
        refine ⟨?_, rfl, rfl, rfl⟩
        rw [State.onSpeech_speech, hspeech]
        exact htail.trans hnil
      case gap =>
        rw [cutPlaying_pos (htail ▸ hne) hpos]
        refine ⟨?_, rfl, rfl, rfl⟩
        rw [State.onSpeech_speech, hspeech]
        exact htail
      case record =>
        rw [hrecord, hspeech]
        exact if_pos hr
      case timer =>
        rw [hclock]
        exact LessonClock.halted_handoffWait (s := cutRamp s) hr
    case pauseless =>
      let w := ((cutOff s).onSpeech (pausing .switch 0)).onSpeech switched
      have hw : w.speech.queue = v :: vs := by
        simp only [w, State.onSpeech_speech, hspeech]
        exact htail.trans hus
      have hhush : w.hush = false := (congrArg Audio.hush (cutOff_audio s)).trans hh
      rw [cut_playing hq h hs hp, cutPlaying_pauseless (by rw [htail, hus]; simp) hz, tryStart_starts hw hv hhush rfl]
      obtain ⟨hqueue, hsettings, -, -⟩ := startHead_kept hw
      exact ⟨hqueue, hsettings.trans (congrArg (fun l : Lc => SpeechSettings.of l.active) (cutOff_lc s))⟩

end Sys2Proof.Machine.Composer
end

section
/-! Strings, words, phrases and the forms of an utterance's parts (R170 to R177, R182). -/
namespace Sys2Proof.Machine.Composer

/-! ### The bytes of a string (R171) -/

section
variable (bank : Nat) {b : Byte} (rest : List Byte)

theorem decodeString_unit (h : b.toNat ≤ 0x7C) : decodeString bank (b :: rest) =
    (.unit ⟨bank, b.toNat⟩ :: (decodeString bank rest).1, (decodeString bank rest).2) := by
  cases rest <;> simp [decodeString, h]

theorem decodeString_gap (h : b = 0x7D ∨ b = 0x7E) : decodeString bank (b :: rest) =
    (.gap :: (decodeString bank rest).1, (decodeString bank rest).2) := by
  rcases h with rfl | rfl <;> cases rest <;> simp [decodeString]

theorem decodeString_end (h : b = 0x7F) : decodeString bank (b :: rest) = ([], true) := by
  subst h
  cases rest <;> simp [decodeString]

theorem decodeString_long (c : Byte) (h : 0x80 ≤ b.toNat) : decodeString bank (b :: c :: rest) =
    (.unit ⟨b.toNat / 32 % 4, 256 * (b.toNat % 32) + c.toNat⟩ :: (decodeString bank rest).1, (decodeString bank rest).2) := by
  simp only [decodeString]
  rw [if_neg (by omega), if_neg (by omega), if_neg (by omega)]

theorem decodeString_cut (h : 0x80 ≤ b.toNat) : decodeString bank [b] = ([], false) := by
  simp only [decodeString]
  rw [if_neg (by omega), if_neg (by omega), if_neg (by omega)]

end

/-! ### Words (R172) -/

/-- A unit in front of a word joins it. -/
theorem tokenWords_unit_unit {u v : UnitRef} {ts : List Token} {w : List UnitRef} {ws : List (List UnitRef)}
    (h : tokenWords (.unit v :: ts) = w :: ws) : tokenWords (.unit u :: .unit v :: ts) = (u :: w) :: ws := by
  rw [tokenWords.eq_def]
  simp only [h]

/-- A unit is the first of a word. -/
theorem tokenWords_unit (u : UnitRef) (ts : List Token) : ∃ w ws, tokenWords (.unit u :: ts) = (u :: w) :: ws := by
  induction ts generalizing u with
  | nil => exact ⟨[], [], rfl⟩
  | cons t ts ih =>
    cases t with
    | gap => exact ⟨[], _, rfl⟩
    | unit v =>
      obtain ⟨w, ws, h⟩ := ih v
      exact ⟨_, _, tokenWords_unit_unit h⟩

theorem tokenWords_units {us : List UnitRef} (h : us ≠ []) : tokenWords (us.map .unit) = [us] := by
  induction us with
  | nil => exact absurd rfl h
  | cons u us ih =>
    cases us with
    | nil => rfl
    | cons v vs => exact tokenWords_unit_unit (ih (by simp))

theorem tokenWords_append_gap (ts ts' : List Token) :
    tokenWords (ts ++ .gap :: ts') = tokenWords ts ++ tokenWords ts' := by
  induction ts with
  | nil => rfl
  | cons t ts ih =>
    cases t with
    | gap => exact ih
    | unit u =>
      match ts with
      | [] => rfl
      | .gap :: ts => exact congrArg ([u] :: ·) ih
      | .unit v :: ts =>
        obtain ⟨w, ws, h⟩ := tokenWords_unit v ts
        rw [h] at ih
        rw [tokenWords_unit_unit h]
        exact tokenWords_unit_unit ih

theorem tokenWords_ne_nil {ts : List Token} {w : List UnitRef} (h : w ∈ tokenWords ts) : w ≠ [] := by
  induction ts generalizing w with
  | nil => simp [tokenWords] at h
  | cons t ts ih =>
    match t, ts with
    | .gap, ts => exact ih h
    | .unit u, [] => rw [List.mem_singleton.1 h]; simp
    | .unit u, .gap :: ts =>
      rcases List.mem_cons.1 h with rfl | h
      · simp
      · exact ih h
    | .unit u, .unit v :: ts =>
      obtain ⟨x, xs, hx⟩ := tokenWords_unit v ts
      rw [tokenWords_unit_unit hx] at h
      rcases List.mem_cons.1 h with rfl | h
      · simp
      · exact ih (hx ▸ List.mem_cons_of_mem _ h)

/-! ### A word at the start of a phrase (R174) -/

section
variable (m : Nat)

/-- The phrases of one word begun with nothing open, the last of them still open. -/
def started (w : List UnitRef) : PhraseBuild := startWord m {} w.length w

variable {m}

theorem startWord_short {w : List UnitRef} (h : w.length ≤ m) (b : PhraseBuild) (fuel : Nat) :
    startWord m b fuel w = { b with items := w.map .unit, count := w.length } := by
  cases fuel with
  | zero => rfl
  | succ fuel => exact if_pos h

theorem startWord_long {w : List UnitRef} (h : m < w.length) (b : PhraseBuild) (fuel : Nat) :
    startWord m b (fuel + 1) w =
      startWord m { b with done := b.done ++ [{ items := (w.take m).map .unit }] } fuel (w.drop m) :=
  if_neg (Nat.not_le.2 h)

/-- What was closed before stays in front, and is not looked at. -/
theorem startWord_done (b : PhraseBuild) (fuel : Nat) (w : List UnitRef) : startWord m b fuel w =
    { b with
      done := b.done ++ (startWord m {} fuel w).done
      items := (startWord m {} fuel w).items, count := (startWord m {} fuel w).count } := by
  induction fuel generalizing b w with
  | zero => simp [startWord]
  | succ fuel ih =>
    rcases Nat.lt_or_ge m w.length with h | h
    · rw [startWord_long h, startWord_long h, ih { b with done := b.done ++ [_] },
        ih { ({} : PhraseBuild) with done := ({} : PhraseBuild).done ++ [_] }]
      simp
    · rw [startWord_short h, startWord_short h]
      simp

/-- As much fuel as the word has units is enough. -/
theorem startWord_fuel (hm : 1 ≤ m) (b : PhraseBuild) {fuel : Nat} {w : List UnitRef} (h : w.length ≤ fuel) :
    startWord m b fuel w = startWord m b w.length w := by
  induction fuel using Nat.strongRecOn generalizing b w with
  | ind fuel ih =>
    rcases Nat.lt_or_ge m w.length with hlong | hshort
    · obtain ⟨k, rfl⟩ : ∃ k, fuel = k + 1 := ⟨fuel - 1, by omega⟩
      obtain ⟨j, hj⟩ : ∃ j, w.length = j + 1 := ⟨w.length - 1, by omega⟩
      have hdrop : (w.drop m).length = w.length - m := List.length_drop
      rw [hj, startWord_long hlong, startWord_long hlong, ih k (by omega) _ (by omega), ih j (by omega) _ (by omega)]
    · rw [startWord_short hshort, startWord_short hshort]

theorem started_short {w : List UnitRef} (h : w.length ≤ m) :
    started m w = { items := w.map .unit, count := w.length } := startWord_short h {} _

theorem started_long (hm : 1 ≤ m) {w : List UnitRef} (h : m < w.length) : started m w =
    { started m (w.drop m) with done := { items := (w.take m).map .unit } :: (started m (w.drop m)).done } := by
  obtain ⟨j, hj⟩ : ∃ j, w.length = j + 1 := ⟨w.length - 1, by omega⟩
  have hdrop : (w.drop m).length = w.length - m := List.length_drop
  have hforced : ∀ fuel v, (startWord m {} fuel v).forced = 0 := fun fuel v => by rw [startWord_done]
  simp only [started]
  rw [hj, startWord_long h, startWord_fuel hm _ (by omega), startWord_done]
  simp [hforced]

end

/-! ### The phrases of a part under construction (R174) -/

theorem units_map (us : List UnitRef) (h : Option (Word × HandoffPart)) :
    Phrase.units { items := us.map .unit, handoff := h } = us := by
  simp only [Phrase.units, List.filterMap_map]
  exact List.filterMap_some

/-- The units of the open phrase. -/
def opened (b : PhraseBuild) : List UnitRef := Phrase.units { items := b.items }

/-- The phrases hold these units in order, each of them between 1 and MAXPHRASE, and the count is that of the open one. -/
structure Sound (m : Nat) (us : List UnitRef) (b : PhraseBuild) : Prop where
  units : b.done.flatMap Phrase.units ++ opened b = us
  sizes : ∀ p ∈ b.done, 1 ≤ p.units.length ∧ p.units.length ≤ m ∧ p.handoff = none
  count : b.count = (opened b).length
  bound : b.count ≤ m

theorem sound_started {m : Nat} (hm : 1 ≤ m) {w : List UnitRef} (hw : w ≠ []) :
    Sound m w (started m w) ∧ 0 < (started m w).count := by
  induction hn : w.length using Nat.strongRecOn generalizing w with
  | ind n ih =>
    rcases Nat.lt_or_ge m w.length with h | h
    · have hlen : (w.drop m).length = w.length - m := List.length_drop
      have hdrop : w.drop m ≠ [] := List.ne_nil_of_length_pos (by omega)
      obtain ⟨hsound, hpos⟩ := ih (w.drop m).length (by omega) hdrop rfl
      rw [started_long hm h]
      refine ⟨⟨?_, ?_, hsound.count, hsound.bound⟩, hpos⟩
      · have hunits := hsound.units
        simp only [List.flatMap_cons, units_map, List.append_assoc]
        exact (congrArg (w.take m ++ ·) hunits).trans (List.take_append_drop m w)
      · intro p hp
        rcases List.mem_cons.1 hp with rfl | hp
        · rw [units_map, List.length_take]
          exact ⟨by omega, by omega, rfl⟩
        · exact hsound.sizes p hp
    · rw [started_short h]
      exact ⟨⟨by simp [opened, units_map], by simp, by simp [opened, units_map], h⟩, List.length_pos_iff.2 hw⟩

section
variable {m gap : Nat} {b : PhraseBuild} {w : List UnitRef}

/-- A word that begins a phrase behind those closed. -/
def begun (m : Nat) (front : List Phrase) (w : List UnitRef) (forced : Nat) : PhraseBuild :=
  { started m w with done := front ++ (started m w).done, forced := forced }

/-- How many forced cuts there are with a word more (R175). -/
def forcedBy (m : Nat) (b : PhraseBuild) (w : List UnitRef) : Nat := b.forced + if m < w.length then 1 else 0

theorem addWord_first (h : b.count = 0) : addWord m gap b w = begun m b.done w (forcedBy m b w) := by
  simp only [addWord, h, if_true]
  rw [startWord_done]
  rfl

theorem addWord_joins (h : b.count ≠ 0) (hm : b.count + w.length ≤ m) : addWord m gap b w =
    { b with items := b.items ++ .gap gap :: w.map .unit, count := b.count + w.length, forced := forcedBy m b w } := by
  simp only [addWord, if_neg h, if_pos hm]
  rfl

theorem addWord_next (h : b.count ≠ 0) (hm : ¬ b.count + w.length ≤ m) :
    addWord m gap b w = begun m (b.done ++ [{ items := b.items }]) w (forcedBy m b w) := by
  simp only [addWord, if_neg h, if_neg hm]
  rw [startWord_done]
  rfl

theorem addWord_forced : (addWord m gap b w).forced = forcedBy m b w := by
  by_cases h : b.count = 0
  · rw [addWord_first h]; rfl
  by_cases hm : b.count + w.length ≤ m
  · rw [addWord_joins h hm]
  · rw [addWord_next h hm]; rfl

/-- A word begun behind sound phrases leaves sound phrases. -/
theorem sound_begun (hm : 1 ≤ m) (hw : w ≠ []) {front : List Phrase} {us : List UnitRef} (forced : Nat)
    (hunits : front.flatMap Phrase.units = us)
    (hsizes : ∀ p ∈ front, 1 ≤ p.units.length ∧ p.units.length ≤ m ∧ p.handoff = none) :
    Sound m (us ++ w) (begun m front w forced) ∧ 0 < (begun m front w forced).count := by
  obtain ⟨hsound, hpos⟩ := sound_started hm hw
  refine ⟨⟨?_, fun p hp => ?_, hsound.count, hsound.bound⟩, hpos⟩
  · have h := hsound.units
    simp only [begun, List.flatMap_append, List.append_assoc, hunits]
    exact congrArg (us ++ ·) h
  · rcases List.mem_append.1 hp with hp | hp
    · exact hsizes p hp
    · exact hsound.sizes p hp

/-- Each word keeps the phrases sound and one of them open. -/
theorem sound_addWord (hm : 1 ≤ m) (hw : w ≠ []) {us : List UnitRef} (h : Sound m us b) :
    Sound m (us ++ w) (addWord m gap b w) ∧ 0 < (addWord m gap b w).count := by
  have hunits := h.units
  by_cases hc : b.count = 0
  · have hopen : opened b = [] := List.length_eq_zero_iff.1 (h.count ▸ hc)
    rw [hopen, List.append_nil] at hunits
    rw [addWord_first hc]
    exact sound_begun hm hw _ hunits h.sizes
  by_cases hj : b.count + w.length ≤ m
  · have hopen : opened { b with items := b.items ++ .gap gap :: w.map .unit } = opened b ++ w := by
      have hw' := units_map w none
      simp only [opened, Phrase.units, List.filterMap_append, List.filterMap_cons] at hw' ⊢
      rw [hw']
    rw [addWord_joins hc hj]
    refine ⟨⟨?_, h.sizes, ?_, hj⟩, by simp only; omega⟩
    · rw [← hunits, List.append_assoc]
      exact congrArg (b.done.flatMap Phrase.units ++ ·) hopen
    · exact (congrArg (· + w.length) h.count).trans (by rw [← List.length_append]; exact congrArg List.length hopen.symm)
  · rw [addWord_next hc hj]
    refine sound_begun hm hw _ (by simpa [opened] using hunits) fun p hp => ?_
    rcases List.mem_append.1 hp with hp | hp
    · exact h.sizes p hp
    · rw [List.mem_singleton.1 hp]
      exact ⟨by have := h.count; unfold opened at this; omega, h.count ▸ h.bound, rfl⟩

end

/-! ### The phrases of a part's words (R174, R175) -/

section
variable (m gap : Nat) (words : List (List UnitRef))

/-- A part's words, built into phrases. -/
def build : PhraseBuild := words.foldl (addWord m gap) {}

variable {m gap words}

theorem build_append (w : List UnitRef) : build m gap (words ++ [w]) = addWord m gap (build m gap words) w := by
  simp [build]

theorem partPhrases_open (h : 0 < (build m gap words).count) :
    (partPhrases m gap words).1 = (build m gap words).done ++ [{ items := (build m gap words).items }] :=
  if_neg (show ¬ (build m gap words).count = 0 by omega)

/-- Each word longer than MAXPHRASE is one forced cut more. -/
theorem foldl_forced (b : PhraseBuild) :
    (words.foldl (addWord m gap) b).forced = b.forced + words.countP fun x => decide (m < x.length) := by
  induction words generalizing b with
  | nil => rfl
  | cons w words ih =>
    rw [List.foldl_cons, ih, addWord_forced, forcedBy, List.countP_cons]
    simp only [decide_eq_true_eq]
    omega

theorem build_forced : (build m gap words).forced = words.countP fun x => decide (m < x.length) :=
  (foldl_forced {}).trans (Nat.zero_add _)

variable (hm : 1 ≤ m) (hne : ∀ x ∈ words, x ≠ [])
include hm hne

/-- Words put behind sound phrases leave sound phrases, and one of them open. -/
theorem sound_foldl {us : List UnitRef} {b : PhraseBuild} (h : Sound m us b) :
    Sound m (us ++ words.flatten) (words.foldl (addWord m gap) b) ∧
      (words ≠ [] ∨ 0 < b.count → 0 < (words.foldl (addWord m gap) b).count) := by
  induction words generalizing us b with
  | nil => exact ⟨(List.append_nil us).symm ▸ h, fun hopen => hopen.resolve_left fun hnil => hnil rfl⟩
  | cons w words ih =>
    obtain ⟨hadd, hpos⟩ := sound_addWord (gap := gap) hm (hne w List.mem_cons_self) h
    obtain ⟨hsound, hopen⟩ := ih (fun x hx => hne x (List.mem_cons_of_mem w hx)) hadd
    rw [List.append_assoc] at hsound
    exact ⟨hsound, fun _ => hopen (.inr hpos)⟩

theorem sound_build : Sound m words.flatten (build m gap words) ∧ (words ≠ [] → 0 < (build m gap words).count) := by
  have hnone : Sound m [] {} := ⟨rfl, fun p hp => absurd hp List.not_mem_nil, rfl, Nat.zero_le m⟩
  obtain ⟨hsound, hopen⟩ := sound_foldl (gap := gap) hm hne hnone
  exact ⟨hsound, fun hw => hopen (.inl hw)⟩

/-- The phrases keep the units in order, each of them between 1 and MAXPHRASE. -/
theorem partPhrases_sound : ((partPhrases m gap words).1.flatMap Phrase.units = words.flatten) ∧
    ∀ p ∈ (partPhrases m gap words).1, 1 ≤ p.units.length ∧ p.units.length ≤ m ∧ p.handoff = none := by
  obtain ⟨hsound, hopen⟩ := sound_build (gap := gap) hm hne
  by_cases hw : words = []
  · subst hw
    exact ⟨rfl, fun p hp => by simp [partPhrases] at hp⟩
  rw [partPhrases_open (hopen hw)]
  refine ⟨by simpa [opened] using hsound.units, fun p hp => ?_⟩
  rcases List.mem_append.1 hp with hp | hp
  · exact hsound.sizes p hp
  · have hcount := hsound.count
    have hpos := hopen hw
    rw [List.mem_singleton.1 hp]
    exact ⟨by unfold opened at hcount; omega, hcount ▸ hsound.bound, rfl⟩

end

section
variable {m gap : Nat} (hm : 1 ≤ m) {w : List UnitRef} (hw : w ≠ [])
include hm hw

/-- One word's phrases are those of the word begun. -/
theorem partPhrases_singleton :
    (partPhrases m gap [w]).1 = (started m w).done ++ [{ items := (started m w).items }] := by
  have hbuild : build m gap [w] = begun m [] w (forcedBy m {} w) := addWord_first (gap := gap) (b := {}) rfl
  have hpos : 0 < (build m gap [w]).count := by
    obtain ⟨-, h⟩ := sound_started hm hw
    rw [hbuild]
    exact h
  rw [partPhrases_open hpos, hbuild]
  rfl

theorem partPhrases_short (h : w.length ≤ m) : (partPhrases m gap [w]).1 = [{ items := w.map .unit }] := by
  rw [partPhrases_singleton hm hw, started_short h]
  rfl

theorem partPhrases_long (h : m < w.length) :
    (partPhrases m gap [w]).1 = { items := (w.take m).map .unit } :: (partPhrases m gap [w.drop m]).1 := by
  have hdrop : w.drop m ≠ [] := List.ne_nil_of_length_pos (by rw [List.length_drop]; omega)
  rw [partPhrases_singleton hm hw, partPhrases_singleton hm hdrop, started_long hm h]
  rfl

/-- A word joins the last phrase behind a gap, or begins the next. -/
theorem partPhrases_append {words : List (List UnitRef)} (hne : ∀ x ∈ words, x ≠ []) {front : List Phrase} {last : Phrase}
    (h : (partPhrases m gap words).1 = front ++ [last]) : (partPhrases m gap (words ++ [w])).1 =
      if last.units.length + w.length ≤ m then front ++ [{ items := last.items ++ .gap gap :: w.map .unit }]
      else front ++ last :: (partPhrases m gap [w]).1 := by
  have hwords : words ≠ [] := fun hnil => by
    subst hnil
    simp [partPhrases] at h
  obtain ⟨hsound, hopen⟩ := sound_build (gap := gap) hm hne
  have hpos := hopen hwords
  have hc : (build m gap words).count ≠ 0 := by omega
  rw [partPhrases_open hpos] at h
  obtain ⟨rfl, hlast⟩ := List.append_inj' h rfl
  obtain rfl := List.head_eq_of_cons_eq hlast
  obtain ⟨-, hpos'⟩ := sound_addWord (gap := gap) hm hw hsound
  have hcount : (Phrase.units { items := (build m gap words).items }).length = (build m gap words).count := hsound.count.symm
  rw [partPhrases_open (by rw [build_append]; exact hpos'), build_append, hcount, partPhrases_singleton hm hw]
  split
  next hj => rw [addWord_joins hc hj]
  next hj =>
    rw [addWord_next hc hj]
    simp [begun]

end

/-! ### Gaps and the forms of parts (R170, R177, R182) -/

theorem gapSamples_floor {c : SpeechSettings} (ms : Nat) (h : 8 ≤ c.rate) :
    gapSamples c ms * c.rate ≤ ms * 256 ∧ ms * 256 < (gapSamples c ms + 1) * c.rate :=
  ⟨Nat.div_mul_le_self _ _, (Nat.div_lt_iff_lt_mul (by omega)).1 (Nat.lt_succ_self _)⟩

section
variable {dir : List BankEntry} {bank : Nat} {c : SpeechSettings} {p : Part}

theorem partPlan_replaced (hm : 1 ≤ c.maxPhrase) (h : partForm dir bank c p = .replaced) :
    partPlan dir bank c p = [{ items := [.unit (cueUnit dir bank cueWordMissing)] }] := by
  rw [partPlan, h]
  exact partPhrases_short hm (by simp) hm

theorem partPlan_cue (hm : 1 ≤ c.maxPhrase) (n : Nat) :
    partPlan dir bank c (.cue n) = [{ items := [.unit (cueUnit dir bank n)] }] :=
  partPhrases_short hm (by simp) hm

theorem partPlan_handoff (h : c.handoff = true) (ref card : Word) :
    partPlan dir bank c (.sentence ref true card) = [{ handoff := some (card, .sentence) }] := by
  simp [partPlan, partForm, h]

end

/-! ### O56 -/

/-- Settles O56, clause by clause: the bytes of a string, its words, the phrases that `partPhrases` builds of them word by
word (`sound_build`, `partPhrases_append`), gaps, and the forms of a part. -/
theorem stringsAndPhrases : Obligations.StringsAndPhrases := by
  refine ⟨fun bank b c rest => ⟨rfl, decodeString_unit bank rest, decodeString_gap bank rest, decodeString_end bank rest,
      decodeString_long bank rest c, decodeString_cut bank⟩,
    ⟨rfl, fun us => tokenWords_units, tokenWords_append_gap, fun ts w => tokenWords_ne_nil⟩,
    fun m gap words w hm hne hw => ?phrases, fun c ms => gapSamples_floor ms,
    fun dir bank c ref card kindHandoff letters n => ⟨rfl, rfl, rfl, rfl, rfl, partPlan_replaced, fun hm => partPlan_cue hm n,
      fun h => partPlan_handoff h ref card⟩⟩
  obtain ⟨hunits, hsizes⟩ := partPhrases_sound (gap := gap) hm hne
  exact ⟨⟨hunits, hsizes, build_forced⟩, rfl, partPhrases_short hm hw, partPhrases_long hm hw,
    fun front last => partPhrases_append hm hw hne⟩

end Sys2Proof.Machine.Composer
end

section
/-! The sample slots of the Audio Output (R195, R196, R198): what a slot sends, and what it leaves alone. -/
namespace Sys2Proof.Machine.AudioOutput

/-! ### A slot (R195, R198) -/

section
variable {s : State}

theorem advanceUnderruns_eq (s : State) : advanceUnderruns s =
    if s.audio.underruns = 65535 then s
    else { s with
      audio := { s.audio with underruns := s.audio.underruns + 1 }
      lc := { s.lc with pendCopies := addOnce .underruns s.lc.pendCopies } } := rfl

theorem slot_markReached (hm : s.audio.mark = some 0) :
    slot s = { s with audio := { s.audio with mark := none, markReport := true, codec := 0 } } := by
  simp only [slot, hm]
  rfl

theorem slot_entry {e : Int} {rest : List Int} (hm : s.audio.mark ≠ some 0) (hb : s.audio.buffer = e :: rest) :
    slot s = { s with audio := { s.audio with
      buffer := rest, mark := s.audio.mark.map (· - 1), hushRamp := s.audio.hushRamp - 1, codec := BitVec.ofInt 16 e } } := by
  unfold slot
  rw [hb]
  split
  next hz => exact absurd hz hm
  next he _ => cases he; rfl
  next he _ => cases he

theorem slot_empty (hm : s.audio.mark ≠ some 0) (hb : s.audio.buffer = []) : slot s = sendFrame 0 (emptySlot s) := by
  unfold slot
  rw [hb]
  split
  next hz => exact absurd hz hm
  next he _ => cases he
  next => rfl

/-- The underruns counted saturate at 65535, and an advance has its copy pending (R6, R196). -/
theorem slot_empty_eq (hm : s.audio.mark ≠ some 0) (hb : s.audio.buffer = []) : slot s =
    if (s.speech.state = .play ∨ s.speech.state = .gap) ∧ s.hush = false ∧ s.audio.underrun = false ∧
        s.audio.markReport = false then
      if s.audio.underruns = 65535 then { s with audio := { s.audio with underrun := true, codec := 0 } }
      else { s with
        audio := { s.audio with underrun := true, underruns := s.audio.underruns + 1, codec := 0 }
        lc := { s.lc with pendCopies := addOnce .underruns s.lc.pendCopies } }
    else { s with audio := { s.audio with codec := 0 } } := by
  rw [slot_empty hm hb, emptySlot, advanceUnderruns_eq, apply_ite (sendFrame 0), apply_ite (sendFrame 0)]
  rfl

/-- A slot touches the Audio Output, and of the Lesson Controller the counter copies pending. -/
theorem slot_frame (s : State) : ∃ a copies,
    slot s = { s with audio := a, lc := { s.lc with pendCopies := copies } } := by
  by_cases hm : s.audio.mark = some 0
  · exact ⟨_, s.lc.pendCopies, slot_markReached hm⟩
  cases hb : s.audio.buffer with
  | cons e rest => exact ⟨_, s.lc.pendCopies, slot_entry hm hb⟩
  | nil =>
    rw [slot_empty_eq hm hb]
    split
    · split <;> exact ⟨_, _, rfl⟩
    · exact ⟨_, s.lc.pendCopies, rfl⟩

theorem calm_slot (h : s.calm) : (slot s).calm := by
  obtain ⟨a, copies, hslot⟩ := slot_frame s
  rw [hslot]
  exact h

theorem exec_sampleSlot (s : State) : exec .sampleSlot s = .next (settle (slot s)) := rfl

end

end Sys2Proof.Machine.AudioOutput
end

section
/-! Entries and ramps of the Audio Output (R193, R194, R197): how an entry is formed of a code, and the ramp down. -/
namespace Sys2Proof.Machine.AudioOutput

/-! ### Linear values (R193) -/

/-- The magnitude of a code's linear value. -/
def magnitude (c : Byte) : Int := (16 + (c.toNat % 16 : Nat)) * 2 ^ (c.toNat / 16 % 8) - 16

/-- Bit 7 of a code is its sign. -/
theorem linear_eq (c : Byte) : linear c = if c.getLsbD 7 then -magnitude c else magnitude c := by
  have hsign : c.toNat ≥ 128 ↔ c.getLsbD 7 = true := by
    rw [← BitVec.msb_eq_getLsbD_last, BitVec.msb_eq_decide, decide_eq_true_iff]
  unfold linear magnitude
  simp only [hsign]

/-- Mantissa 15 in segment 7 is the largest. -/
theorem magnitude_range (c : Byte) : 0 ≤ magnitude c ∧ magnitude c ≤ 3952 := by
  have hseg : 2 ^ (c.toNat / 16 % 8) ≤ 2 ^ 7 := Nat.pow_le_pow_right (by decide) (by omega)
  have hone : 1 ≤ 2 ^ (c.toNat / 16 % 8) := Nat.one_le_two_pow
  have hlow := Nat.mul_le_mul (Nat.le_add_right 16 (c.toNat % 16)) hone
  have hhigh := Nat.mul_le_mul (show 16 + c.toNat % 16 ≤ 31 by omega) hseg
  have hcast : magnitude c = ((16 + c.toNat % 16) * 2 ^ (c.toNat / 16 % 8) : Nat) - 16 := by simp [magnitude]
  omega

theorem linear_range (c : Byte) : -3952 ≤ linear c ∧ linear c ≤ 3952 := by
  have := magnitude_range c
  rw [linear_eq]
  split <;> omega

/-! ### Scaling toward zero (R194, R197) -/

/-- Scaling by a ratio of at most one makes no magnitude grow. -/
theorem natAbs_truncScale_le (v : Int) {num den : Nat} (h : num ≤ den) : (truncScale v num den).natAbs ≤ v.natAbs := by
  rw [truncScale, Int.natAbs_tdiv, Int.natAbs_mul, Int.natAbs_natCast, Int.natAbs_natCast, Nat.mul_comm]
  exact Nat.div_le_of_le_mul (Nat.mul_le_mul_right _ h)

theorem truncScale_zero_value (num den : Nat) : truncScale 0 num den = 0 := by simp [truncScale]

theorem truncScale_zero_num (v : Int) (den : Nat) : truncScale v 0 den = 0 := by simp [truncScale]

/-! ### The entry formed of a code (R194) -/

theorem formSample_full (c : Byte) (volume : Nat) : formSample c volume 0 = truncScale (linear c) volume 31 := rfl

theorem formSample_ramp (c : Byte) (volume : Nat) {k : Nat} (h : 1 ≤ k) :
    formSample c volume k = truncScale (formSample c volume 0) k 64 := if_neg (by omega)

theorem natAbs_formSample_le (c : Byte) {volume k : Nat} (hv : volume ≤ 31) (hk : k ≤ 64) :
    (formSample c volume k).natAbs ≤ (linear c).natAbs := by
  have hfull : (formSample c volume 0).natAbs ≤ (linear c).natAbs := natAbs_truncScale_le _ hv
  rcases Nat.eq_zero_or_pos k with rfl | hpos
  · exact hfull
  · rw [formSample_ramp c volume hpos]
    exact Nat.le_trans (natAbs_truncScale_le _ hk) hfull

theorem formSample_silent (c : Byte) (k : Nat) : formSample c 0 k = 0 := by
  have hfull : formSample c 0 0 = 0 := truncScale_zero_num _ _
  rcases Nat.eq_zero_or_pos k with rfl | hpos
  · exact hfull
  · rw [formSample_ramp c 0 hpos, hfull, truncScale_zero_value]

/-! ### The ramp down (R197) -/

theorem rampDown_getD {n k : Nat} {b : List Int} (hk : 1 ≤ k) (hn : k ≤ n) (hb : k ≤ b.length) :
    (rampDown n b).getD (k - 1) 0 = truncScale (b.getD (k - 1) 0) (n - k) n := by
  have hi : k - 1 < b.length := by omega
  have hr : k - 1 < (rampDown n b).length := by rw [rampDown_length]; omega
  rw [List.getD_eq_getElem?_getD, List.getD_eq_getElem?_getD, List.getElem?_eq_getElem hi, List.getElem?_eq_getElem hr]
  simp only [rampDown, Option.getD_some, List.getElem_map, List.getElem_zipIdx, List.getElem_take, Nat.add_sub_cancel' hk]

/-! ### O18 -/

/-- Settles O18: `slot_markReached`, `slot_entry` and `slot_empty_eq` say what the slot sends, and settling keeps the bare
state; entries and ramps are scalings toward zero, by ratios of at most one. -/
theorem samplesFormedAndSent : Obligations.SamplesFormedAndSent := by
  refine ⟨fun s hs => ⟨_, exec_sampleSlot s, (bare_settle _ (calm_slot hs)).trans (congrArg State.bare ?slots)⟩,
    fun c => ⟨linear_eq c, linear_range c⟩, fun c volume k => ⟨formSample_full c volume, formSample_ramp c volume⟩,
    fun c volume k hv hk => ⟨natAbs_formSample_le c hv hk, formSample_silent c k⟩,
    fun b => ⟨rampDown_length 64 b, fun k hk hn hb => ?ramp⟩⟩
  case slots =>
    split
    next hm => exact slot_markReached hm
    next hb hm => exact slot_entry hm hb
    next hb hm => exact slot_empty_eq hm hb
  case ramp =>
    rw [rampDown_getD hk hn hb]
    exact ⟨by rw [truncScale, Int.ofNat_sub hn]; rfl, natAbs_truncScale_le _ (Nat.sub_le 64 k)⟩

end Sys2Proof.Machine.AudioOutput
end
